-- ==== Sys2Proof/Word.lean ====
section
/-! DEFINITION. The word types of the CS-6: what the manual treats as bits. -/

namespace Sys2Proof

/-- One byte of a record (R162). -/
abbrev Byte := BitVec 8

/-- A sample code (R1): 0 to 65,534 are values, 65,535 is VOID. -/
abbrev Code := BitVec 16

/-- The tag byte of a record (R162). -/
abbrev Tag := BitVec 8

/-- The 64 data bits of a cell word; lane `l` is bits `16 l` to `16 l + 15` (R128). -/
abbrev CellWord := BitVec 64

/-- The 72 bits of a stored word: bits 0 to 63 data, bits 64 to 71 check code (R128). -/
abbrev StoredBits := BitVec 72

/-- A frame number, 32 bits wrapping (R49). -/
abbrev FrameNumber := BitVec 32

/-- Machine time, 48 bits wrapping (R47). -/
abbrev MachineTime := BitVec 48

/-- A set of notice sources: bit `b` is the source of code `b` (R164). -/
abbrev SourceSet := BitVec 10

/-- A wrapping 32-bit count (R28, R79, R179). -/
abbrev Count32 := BitVec 32

/-- VOID (R1). -/
def voidCode : Code := 65535

end Sys2Proof
end

