-- ==== Sys2Proof/Config.lean ====
section
/-! DEFINITION. The free values: what the manual leaves open and the part nevertheless has. None has a body, so a claim
holds whatever they are. -/

namespace Sys2Proof

/-- The data bits that the byte at an address holds when nothing has written it since the power-on of the given number
(R20, R140: the contents after power-on are not defined). Log 5. -/
opaque Config.unwrittenByte : Nat → Nat → Byte

/-- The class of finding (0 clean, 1 single error, any other uncorrectable) of a READ of a word that nothing has
written: its check code need not match (R140). Arguments: power-on number, word address, wrong bits. Log 5. -/
opaque Config.unwrittenFinding : Nat → Nat → StoredBits → Nat

/-- The class of finding (0 clean, 1 single error, any other uncorrectable) of a word with three or more wrong bits
(R141). Arguments: the data as written, the wrong bits. Log 6. -/
opaque Config.manyWrongFinding : CellWord → StoredBits → Nat

/-- The bit that the check puts right, wrongly, when a word beyond its strength is taken as having a single error
(R141). Arguments: the data as read, the wrong bits. Log 6. -/
opaque Config.miscorrectedBit : CellWord → StoredBits → Nat

end Sys2Proof
end

