-- ==== Sys2Proof/Syntax.lean ====
section
/-! DEFINITION. The commands of the CS-6: one constructor of `Instr` per row of the operation table, and the names,
values and requests they carry. -/

namespace Sys2Proof

/-- The eight station-link ports: C, T, and S1 to S6 (`s 0` is S1). -/
inductive Port where
  | c
  | t
  | s (n : Fin 6)
  deriving DecidableEq, Repr

/-- The global settings, the first twelve rows of the settings table (section 9.4). -/
inductive SettingName where
  | framePeriod | urgentWindow | drainHigh | drainLow | windowStarve | rowCloseTime
  | refreshInterval | chunkCap | chunkHold | noticeInterval | noticeEnables | alwaysSend
  deriving DecidableEq, Repr

/-- The twelve spindle parameters (R63). -/
inductive ParamName where
  | sheet | originX | originY | ratio | mirrorX | mirrorY
  | passFloor | allowance | plungeLimit | vFactor | toolNominal | touchLimit
  deriving DecidableEq, Repr

/-- The seven read-only spindle items (R65). -/
inductive ReadOnlyName where
  | spindleState | correction | pendingCorrection | heldDepth | releaseCondition | alarmFired | resumePending
  deriving DecidableEq, Repr

/-- A name carried by SET or GET; `other` is a text that names nothing (R169, R170). -/
inductive ItemName where
  | setting (n : SettingName)
  | param (n : ParamName)
  | readOnly (n : ReadOnlyName)
  | other (text : List Byte)
  deriving DecidableEq, Repr

/-- An enumerated value carried as its name (R164, R169); `other` is any further text. -/
inductive ValueName where
  | none | off | on
  | unbound | bound | retracted
  | nextMark | afterAlarm0 | afterAlarm1
  | set | clear
  | other (text : List Byte)
  deriving DecidableEq, Repr

/-- The value form of R164: NUMBER, NAME or SOURCES. -/
inductive Value where
  | number (n : Int)
  | name (n : ValueName)
  | sources (bits : BitVec 16)
  deriving DecidableEq, Repr

/-- The twenty-two cell requests (R167), with the fields of their layouts (R164). Coded fields are held as the byte
carried, since a code outside its list is refused by the request's owner. -/
inductive CellRequest where
  | set (name : ItemName) (spindle : Nat) (value : Value)
  | get (name : ItemName) (spindle selector : Nat)
  | statusRead
  | sheetOpen (sheet kind width height pitch quantum base href policy floor : Nat)
  | sheetReady (sheet : Nat)
  | sheetClose (sheet : Nat)
  | sheetStatus (sheet : Nat)
  | loadBlock (sheet column row width height : Nat) (codes : List Code)
  | readWindow (sheet column row width height : Nat)
  | windowCancel
  | ingestHold
  | ingestRelease
  | ingestFlush
  | spindleRelease (spindles : BitVec 8) (condition : Nat)
  | spindleRetract (spindles : BitVec 8)
  | spindleResume (spindles : BitVec 8)
  | timeSet (value : MachineTime)
  | alarmSet (unit : Nat) (compare mask : MachineTime) (enable : Nat)
  | noticeAck (sources : BitVec 16)
  | countersRead
  | countersClear
  | serviceReset
  deriving DecidableEq, Repr

/-- A cell request with its tag, as it stands in the cell request queue (R167). -/
structure Request where
  tag : Tag
  body : CellRequest
  deriving DecidableEq, Repr

/-- The commands: one constructor per row of the operation table. A request's command is its TAKING from the front of
the cell request queue (R167); its arrival is `cellRequestArrives`. -/
inductive Instr where
  | set (tag : Tag) (name : ItemName) (spindle : Nat) (value : Value)
  | get (tag : Tag) (name : ItemName) (spindle selector : Nat)
  | statusRead (tag : Tag)
  | sheetOpen (tag : Tag) (sheet kind width height pitch quantum base href policy floor : Nat)
  | sheetReady (tag : Tag) (sheet : Nat)
  | sheetClose (tag : Tag) (sheet : Nat)
  | sheetStatus (tag : Tag) (sheet : Nat)
  | loadBlock (tag : Tag) (sheet column row width height : Nat) (codes : List Code)
  | readWindow (tag : Tag) (sheet column row width height : Nat)
  | windowCancel (tag : Tag)
  | ingestHold (tag : Tag)
  | ingestRelease (tag : Tag)
  | ingestFlush (tag : Tag)
  | spindleRelease (tag : Tag) (spindles : BitVec 8) (condition : Nat)
  | spindleRetract (tag : Tag) (spindles : BitVec 8)
  | spindleResume (tag : Tag) (spindles : BitVec 8)
  | timeSet (tag : Tag) (value : MachineTime)
  | alarmSet (tag : Tag) (unit : Nat) (compare mask : MachineTime) (enable : Nat)
  | noticeAck (tag : Tag) (sources : BitVec 16)
  | countersRead (tag : Tag)
  | countersClear (tag : Tag)
  | serviceReset (tag : Tag)
  /-- A good cell request record arrives on Port C (R167). -/
  | cellRequestArrives (tag : Tag) (request : CellRequest)
  | sweepOpen (tag : Tag) (sheet direction row : Nat)
  /-- Each sample is a code and its dropout flag (R26). -/
  | samples (tag : Tag) (samples : List (Code × Bool))
  | sweepClose (tag : Tag) (check : BitVec 16)
  | depthQuery (spindle : Fin 6) (tag : Tag) (due16 : BitVec 16) (u v : Int)
  | touchOff (spindle : Fin 6) (tag : Tag) (length : Nat)
  | idleSymbol (port : Port)
  | otherSymbol (port : Port)
  | lossOfCarrier (port : Port)
  /-- A record that R165 judges bad, with the bytes received between its start symbol and the symbol that ends it. -/
  | badRecord (port : Port) (bytes : List Byte)
  | tick
  | frameMark
  | urgencyPoint
  | alarmFire (unit : Fin 2)
  | powerOnReset
  | powerOnResetRelease
  | initialisationComplete
  | openComplete
  | closeComplete
  /-- `upset`: the bits of the stored word that have gone wrong (or back) since it was last written or read (log 6). -/
  | readComplete (upset : StoredBits)
  | writeComplete
  | refreshComplete
  | feederMakeEntry
  | refreshIntervalExpiry
  | rowCloseTimerExpiry (bank : Fin 8)
  | windowChunkSent
  deriving DecidableEq, Repr

/-- The request that a taking command takes, with its tag; `none` for every other command. -/
def Instr.request? : Instr → Option Request
  | .set t n sp v => some ⟨t, .set n sp v⟩
  | .get t n sp sel => some ⟨t, .get n sp sel⟩
  | .statusRead t => some ⟨t, .statusRead⟩
  | .sheetOpen t n k w h p q b hr po f => some ⟨t, .sheetOpen n k w h p q b hr po f⟩
  | .sheetReady t n => some ⟨t, .sheetReady n⟩
  | .sheetClose t n => some ⟨t, .sheetClose n⟩
  | .sheetStatus t n => some ⟨t, .sheetStatus n⟩
  | .loadBlock t n x y w h cs => some ⟨t, .loadBlock n x y w h cs⟩
  | .readWindow t n x y w h => some ⟨t, .readWindow n x y w h⟩
  | .windowCancel t => some ⟨t, .windowCancel⟩
  | .ingestHold t => some ⟨t, .ingestHold⟩
  | .ingestRelease t => some ⟨t, .ingestRelease⟩
  | .ingestFlush t => some ⟨t, .ingestFlush⟩
  | .spindleRelease t sp c => some ⟨t, .spindleRelease sp c⟩
  | .spindleRetract t sp => some ⟨t, .spindleRetract sp⟩
  | .spindleResume t sp => some ⟨t, .spindleResume sp⟩
  | .timeSet t v => some ⟨t, .timeSet v⟩
  | .alarmSet t u c m e => some ⟨t, .alarmSet u c m e⟩
  | .noticeAck t b => some ⟨t, .noticeAck b⟩
  | .countersRead t => some ⟨t, .countersRead⟩
  | .countersClear t => some ⟨t, .countersClear⟩
  | .serviceReset t => some ⟨t, .serviceReset⟩
  | .cellRequestArrives _ _ => none
  | .sweepOpen _ _ _ _ => none
  | .samples _ _ => none
  | .sweepClose _ _ => none
  | .depthQuery _ _ _ _ _ => none
  | .touchOff _ _ _ => none
  | .idleSymbol _ => none
  | .otherSymbol _ => none
  | .lossOfCarrier _ => none
  | .badRecord _ _ => none
  | .tick => none
  | .frameMark => none
  | .urgencyPoint => none
  | .alarmFire _ => none
  | .powerOnReset => none
  | .powerOnResetRelease => none
  | .initialisationComplete => none
  | .openComplete => none
  | .closeComplete => none
  | .readComplete _ => none
  | .writeComplete => none
  | .refreshComplete => none
  | .feederMakeEntry => none
  | .refreshIntervalExpiry => none
  | .rowCloseTimerExpiry _ => none
  | .windowChunkSent => none

end Sys2Proof
end

