-- ==== Sys2Proof/Decode.lean ====
section
/-! DEFINITION. The byte form of received records (R162 to R165): the check, the frame, the payloads, the judgement of a
record as good or bad, and an encoder of the records the partners send. The operation table gives no row any bits. -/

namespace Sys2Proof

/-! ### The check (R29, R162) -/

/-- One bit into the CRC-16 with generator x¹⁶ + x¹² + x⁵ + 1 (R29). -/
def crcBit (r : BitVec 16) (b : Bool) : BitVec 16 :=
  if r.msb == b then r <<< 1 else (r <<< 1) ^^^ 0x1021

/-- One byte into the CRC, most significant bit first (R29). -/
def crcByte (r : BitVec 16) (b : Byte) : BitVec 16 :=
  [7, 6, 5, 4, 3, 2, 1, 0].foldl (fun r i => crcBit r (b.getLsbD i)) r

/-- The register of all ones that a check starts from (R29). -/
def crcInit : BitVec 16 := 0xFFFF

def crcBytes (bs : List Byte) : BitVec 16 := bs.foldl crcByte crcInit

/-- A code into the sweep check, high byte first (R29). -/
def crcCode (r : BitVec 16) (c : Code) : BitVec 16 :=
  crcByte (crcByte r (c.extractLsb' 8 8)) (c.extractLsb' 0 8)

/-! ### Fields: every field of two bytes or more is sent high byte first (R162) -/

/-- `n` in `w` bytes, high byte first. -/
def beBytes : Nat → Nat → List Byte
  | 0, _ => []
  | w + 1, n => BitVec.ofNat 8 (n / 256 ^ w) :: beBytes w n

/-- The number that bytes carry, high byte first. -/
def beNat (bs : List Byte) : Nat := bs.foldl (fun a b => a * 256 + b.toNat) 0

/-- A signed field of `w` bytes, in two's complement (R162). -/
def beSigned (w : Nat) (n : Int) : List Byte := beBytes w (BitVec.ofInt (8 * w) n).toNat

def beInt (w : Nat) (bs : List Byte) : Int := (BitVec.ofNat (8 * w) (beNat bs)).toInt

/-- The field of `w` bytes at offset `o` of a payload. -/
def field (p : List Byte) (o w : Nat) : Nat := beNat ((p.drop o).take w)

def codeBytes (cs : List Code) : List Byte := cs.flatMap (fun c => beBytes 2 c.toNat)

/-- The `k` codes that start at offset `o`. -/
def codesAt (p : List Byte) (o k : Nat) : List Code :=
  (List.range k).map (fun i => BitVec.ofNat 16 (field p (o + 2 * i) 2))

/-! ### Names as texts (R164, R169) -/

def ascii (cs : List Char) : List Byte := cs.map (fun c => BitVec.ofNat 8 c.toNat)

def settingText : SettingName → List Byte
  | .framePeriod => ascii ['F','R','A','M','E','_','P','E','R','I','O','D']
  | .urgentWindow => ascii ['U','R','G','E','N','T','_','W','I','N','D','O','W']
  | .drainHigh => ascii ['D','R','A','I','N','_','H','I','G','H']
  | .drainLow => ascii ['D','R','A','I','N','_','L','O','W']
  | .windowStarve => ascii ['W','I','N','D','O','W','_','S','T','A','R','V','E']
  | .rowCloseTime => ascii ['R','O','W','_','C','L','O','S','E','_','T','I','M','E']
  | .refreshInterval => ascii ['R','E','F','R','E','S','H','_','I','N','T','E','R','V','A','L']
  | .chunkCap => ascii ['C','H','U','N','K','_','C','A','P']
  | .chunkHold => ascii ['C','H','U','N','K','_','H','O','L','D']
  | .noticeInterval => ascii ['N','O','T','I','C','E','_','I','N','T','E','R','V','A','L']
  | .noticeEnables => ascii ['N','O','T','I','C','E','_','E','N','A','B','L','E','S']
  | .alwaysSend => ascii ['A','L','W','A','Y','S','_','S','E','N','D']

def paramText : ParamName → List Byte
  | .sheet => ascii ['S','H','E','E','T']
  | .originX => ascii ['O','R','I','G','I','N','_','X']
  | .originY => ascii ['O','R','I','G','I','N','_','Y']
  | .ratio => ascii ['R','A','T','I','O']
  | .mirrorX => ascii ['M','I','R','R','O','R','_','X']
  | .mirrorY => ascii ['M','I','R','R','O','R','_','Y']
  | .passFloor => ascii ['P','A','S','S','_','F','L','O','O','R']
  | .allowance => ascii ['A','L','L','O','W','A','N','C','E']
  | .plungeLimit => ascii ['P','L','U','N','G','E','_','L','I','M','I','T']
  | .vFactor => ascii ['V','_','F','A','C','T','O','R']
  | .toolNominal => ascii ['T','O','O','L','_','N','O','M','I','N','A','L']
  | .touchLimit => ascii ['T','O','U','C','H','_','L','I','M','I','T']

def readOnlyText : ReadOnlyName → List Byte
  | .spindleState => ascii ['S','P','I','N','D','L','E','_','S','T','A','T','E']
  | .correction => ascii ['C','O','R','R','E','C','T','I','O','N']
  | .pendingCorrection => ascii ['P','E','N','D','I','N','G','_','C','O','R','R','E','C','T','I','O','N']
  | .heldDepth => ascii ['H','E','L','D','_','D','E','P','T','H']
  | .releaseCondition => ascii ['R','E','L','E','A','S','E','_','C','O','N','D','I','T','I','O','N']
  | .alarmFired => ascii ['A','L','A','R','M','_','F','I','R','E','D']
  | .resumePending => ascii ['R','E','S','U','M','E','_','P','E','N','D','I','N','G']

def itemText : ItemName → List Byte
  | .setting n => settingText n
  | .param n => paramText n
  | .readOnly n => readOnlyText n
  | .other t => t

/-- Every name that SET and GET know (sections 9.4 and R65). -/
def knownItems : List ItemName :=
  [.setting .framePeriod, .setting .urgentWindow, .setting .drainHigh, .setting .drainLow, .setting .windowStarve,
    .setting .rowCloseTime, .setting .refreshInterval, .setting .chunkCap, .setting .chunkHold,
    .setting .noticeInterval, .setting .noticeEnables, .setting .alwaysSend,
    .param .sheet, .param .originX, .param .originY, .param .ratio, .param .mirrorX, .param .mirrorY,
    .param .passFloor, .param .allowance, .param .plungeLimit, .param .vFactor, .param .toolNominal,
    .param .touchLimit,
    .readOnly .spindleState, .readOnly .correction, .readOnly .pendingCorrection, .readOnly .heldDepth,
    .readOnly .releaseCondition, .readOnly .alarmFired, .readOnly .resumePending]

def itemOfText (t : List Byte) : ItemName :=
  (knownItems.find? (fun n => itemText n == t)).getD (.other t)

def valueText : ValueName → List Byte
  | .none => ascii ['N','O','N','E']
  | .off => ascii ['O','F','F']
  | .on => ascii ['O','N']
  | .unbound => ascii ['U','N','B','O','U','N','D']
  | .bound => ascii ['B','O','U','N','D']
  | .retracted => ascii ['R','E','T','R','A','C','T','E','D']
  | .nextMark => ascii ['N','E','X','T','_','M','A','R','K']
  | .afterAlarm0 => ascii ['A','F','T','E','R','_','A','L','A','R','M','0']
  | .afterAlarm1 => ascii ['A','F','T','E','R','_','A','L','A','R','M','1']
  | .set => ascii ['S','E','T']
  | .clear => ascii ['C','L','E','A','R']
  | .other t => t

def knownValues : List ValueName :=
  [.none, .off, .on, .unbound, .bound, .retracted, .nextMark, .afterAlarm0, .afterAlarm1, .set, .clear]

def valueOfText (t : List Byte) : ValueName :=
  (knownValues.find? (fun n => valueText n == t)).getD (.other t)

/-! ### Texts and values (R164) -/

/-- A text: its length from 1 to 32, then its characters (R164). -/
def textBytes (t : List Byte) : List Byte := BitVec.ofNat 8 t.length :: t

/-- A text and what follows it; `none` makes the record's length wrong for its kind. -/
def takeText : List Byte → Option (List Byte × List Byte)
  | [] => none
  | n :: rest =>
    if 1 ≤ n.toNat ∧ n.toNat ≤ 32 ∧ n.toNat ≤ rest.length then some (rest.take n.toNat, rest.drop n.toNat) else none

/-- A value: form code NUMBER 0, NAME 1 or SOURCES 2, then its content (R164). -/
def valueBytes : Value → List Byte
  | .number n => 0 :: beSigned 4 n
  | .name n => 1 :: textBytes (valueText n)
  | .sources b => 2 :: beBytes 2 b.toNat

/-- The value that the rest of a payload carries, wholly; `none` where its length or form code is wrong. -/
def valueOf : List Byte → Option Value
  | [] => none
  | form :: rest =>
    if form = 0 then (if rest.length = 4 then some (.number (beInt 4 rest)) else none)
    else if form = 1 then
      match takeText rest with
      | some (t, []) => some (.name (valueOfText t))
      | _ => none
    else if form = 2 then (if rest.length = 2 then some (.sources (BitVec.ofNat 16 (beNat rest))) else none)
    else none

/-! ### Cell requests, kinds 1 to 22 (R164) -/

def CellRequest.kind : CellRequest → Nat
  | .set _ _ _ => 1
  | .get _ _ _ => 2
  | .statusRead => 3
  | .sheetOpen _ _ _ _ _ _ _ _ _ _ => 4
  | .sheetReady _ => 5
  | .sheetClose _ => 6
  | .sheetStatus _ => 7
  | .loadBlock _ _ _ _ _ _ => 8
  | .readWindow _ _ _ _ _ => 9
  | .windowCancel => 10
  | .ingestHold => 11
  | .ingestRelease => 12
  | .ingestFlush => 13
  | .spindleRelease _ _ => 14
  | .spindleRetract _ => 15
  | .spindleResume _ => 16
  | .timeSet _ => 17
  | .alarmSet _ _ _ _ => 18
  | .noticeAck _ => 19
  | .countersRead => 20
  | .countersClear => 21
  | .serviceReset => 22

def CellRequest.payload : CellRequest → List Byte
  | .set n sp v => textBytes (itemText n) ++ beBytes 1 sp ++ valueBytes v
  | .get n sp sel => textBytes (itemText n) ++ beBytes 1 sp ++ beBytes 1 sel
  | .sheetOpen n k w h p q b hr po f =>
    beBytes 1 n ++ beBytes 1 k ++ beBytes 2 w ++ beBytes 2 h ++ beBytes 2 p ++ beBytes 1 q ++ beBytes 3 b
      ++ beBytes 4 hr ++ beBytes 1 po ++ beBytes 4 f
  | .sheetReady n => beBytes 1 n
  | .sheetClose n => beBytes 1 n
  | .sheetStatus n => beBytes 1 n
  | .loadBlock n x y w h cs =>
    beBytes 1 n ++ beBytes 2 x ++ beBytes 2 y ++ beBytes 2 w ++ beBytes 2 h ++ codeBytes cs
  | .readWindow n x y w h => beBytes 1 n ++ beBytes 2 x ++ beBytes 2 y ++ beBytes 2 w ++ beBytes 2 h
  | .spindleRelease sp c => [sp] ++ beBytes 1 c
  | .spindleRetract sp => [sp]
  | .spindleResume sp => [sp]
  | .timeSet v => beBytes 6 v.toNat
  | .alarmSet u c m e => beBytes 1 u ++ beBytes 6 c.toNat ++ beBytes 6 m.toNat ++ beBytes 1 e
  | .noticeAck b => beBytes 2 b.toNat
  | .statusRead => []
  | .windowCancel => []
  | .ingestHold => []
  | .ingestRelease => []
  | .ingestFlush => []
  | .countersRead => []
  | .countersClear => []
  | .serviceReset => []

/-- The request of a kind and a payload; `none` where the kind is no cell request's or the length is wrong for it
(R164, R165). -/
def requestOf (kind : Nat) (p : List Byte) : Option CellRequest :=
  let fixed (len : Nat) (r : CellRequest) : Option CellRequest := if p.length = len then some r else none
  match kind with
  | 1 =>
    match takeText p with
    | some (t, sp :: rest) => (valueOf rest).map (fun v => .set (itemOfText t) sp.toNat v)
    | _ => none
  | 2 =>
    match takeText p with
    | some (t, [sp, sel]) => some (.get (itemOfText t) sp.toNat sel.toNat)
    | _ => none
  | 3 => fixed 0 .statusRead
  | 4 => fixed 21 (.sheetOpen (field p 0 1) (field p 1 1) (field p 2 2) (field p 4 2) (field p 6 2) (field p 8 1)
      (field p 9 3) (field p 12 4) (field p 16 1) (field p 17 4))
  | 5 => fixed 1 (.sheetReady (field p 0 1))
  | 6 => fixed 1 (.sheetClose (field p 0 1))
  | 7 => fixed 1 (.sheetStatus (field p 0 1))
  | 8 =>
    if 9 ≤ p.length ∧ (p.length - 9) % 2 = 0 ∧ (p.length - 9) / 2 ≤ 1024 then
      some (.loadBlock (field p 0 1) (field p 1 2) (field p 3 2) (field p 5 2) (field p 7 2)
        (codesAt p 9 ((p.length - 9) / 2)))
    else none
  | 9 => fixed 9 (.readWindow (field p 0 1) (field p 1 2) (field p 3 2) (field p 5 2) (field p 7 2))
  | 10 => fixed 0 .windowCancel
  | 11 => fixed 0 .ingestHold
  | 12 => fixed 0 .ingestRelease
  | 13 => fixed 0 .ingestFlush
  | 14 => fixed 2 (.spindleRelease (BitVec.ofNat 8 (field p 0 1)) (field p 1 1))
  | 15 => fixed 1 (.spindleRetract (BitVec.ofNat 8 (field p 0 1)))
  | 16 => fixed 1 (.spindleResume (BitVec.ofNat 8 (field p 0 1)))
  | 17 => fixed 6 (.timeSet (BitVec.ofNat 48 (field p 0 6)))
  | 18 => fixed 14 (.alarmSet (field p 0 1) (BitVec.ofNat 48 (field p 1 6)) (BitVec.ofNat 48 (field p 7 6)) (field p 13 1))
  | 19 => fixed 2 (.noticeAck (BitVec.ofNat 16 (field p 0 2)))
  | 20 => fixed 0 .countersRead
  | 21 => fixed 0 .countersClear
  | 22 => fixed 0 .serviceReset
  | _ => none

/-! ### Tracer and spindle records (R163) -/

/-- The flag of the `k`-th sample in a dropout plane: bit `7 − (k mod 8)` of byte `k div 8` (R163). -/
def planeFlag (plane : List Byte) (k : Nat) : Bool := (plane.getD (k / 8) 0).getLsbD (7 - k % 8)

/-- Byte `j` of the dropout plane of the flags; unused bits are 0 (R163). -/
def planeByte (flags : List Bool) (j : Nat) : Byte :=
  (List.range 8).foldl (fun b i => if flags.getD (8 * j + i) false then b ||| (0x80 >>> i) else b) 0

def planeBytes (flags : List Bool) : List Byte :=
  (List.range ((flags.length + 7) / 8)).map (planeByte flags)

def samplesPayload (xs : List (Code × Bool)) : List Byte :=
  beBytes 2 xs.length ++ codeBytes (xs.map Prod.fst) ++ planeBytes (xs.map Prod.snd)

/-- The samples of a SAMPLES payload; `none` where `n` lies outside 1 to 512 or the length is wrong (R165). -/
def samplesOf (p : List Byte) : Option (List (Code × Bool)) :=
  let n := field p 0 2
  if 2 ≤ p.length ∧ 1 ≤ n ∧ n ≤ 512 ∧ p.length = 2 + 2 * n + (n + 7) / 8 then
    some ((codesAt p 2 n).zip ((List.range n).map (planeFlag (p.drop (2 + 2 * n)))))
  else none

/-! ### The frame and the judgement (R162, R165) -/

/-- A record between its start symbol and the symbol that ends it: kind, tag, length, payload, check (R162). -/
def frameBytes (kind : Nat) (tag : Tag) (payload : List Byte) : List Byte :=
  let body := beBytes 1 kind ++ [tag] ++ beBytes 2 payload.length ++ payload
  body ++ beBytes 2 (crcBytes body).toNat

/-- The kind, tag and payload of a record whose length field and check are right (R165). -/
def unframe (bs : List Byte) : Option (Nat × Tag × List Byte) :=
  let len := field bs 2 2
  if 6 ≤ bs.length ∧ len ≤ 2112 ∧ bs.length = 6 + len
      ∧ field bs (4 + len) 2 = (crcBytes (bs.take (4 + len))).toNat then
    some (field bs 0 1, bs.getD 1 0, (bs.drop 4).take len)
  else none

/-- What the record of a kind, tag and payload brings to the part on a port; `none` where R165 judges it bad. -/
def deliver (p : Port) (kind : Nat) (tag : Tag) (payload : List Byte) : Option Instr :=
  match p with
  | .c => (requestOf kind payload).map (.cellRequestArrives tag)
  | .t =>
    match kind with
    | 96 =>
      if payload.length = 4 then some (.sweepOpen tag (field payload 0 1) (field payload 1 1) (field payload 2 2))
      else none
    | 97 => (samplesOf payload).map (.samples tag)
    | 98 => if payload.length = 2 then some (.sweepClose tag (BitVec.ofNat 16 (field payload 0 2))) else none
    | _ => none
  | .s n =>
    match kind with
    | 128 =>
      if payload.length = 8 then
        some (.depthQuery n tag (BitVec.ofNat 16 (field payload 0 2)) (beInt 3 ((payload.drop 2).take 3))
          (beInt 3 (payload.drop 5)))
      else none
    | 129 => if payload.length = 3 then some (.touchOff n tag (field payload 0 3)) else none
    | _ => none

/-- The judgement of R165: the command that a good record brings, or `none` for a bad one. -/
def decodeRecord (p : Port) (bs : List Byte) : Option Instr :=
  (unframe bs).bind (fun (kind, tag, payload) => deliver p kind tag payload)

/-- The port and the bytes of the record that brings a command; `none` for a command that no record brings. -/
def encodeRecord : Instr → Option (Port × List Byte)
  | .cellRequestArrives tag r => some (.c, frameBytes r.kind tag r.payload)
  | .sweepOpen tag n d y => some (.t, frameBytes 96 tag (beBytes 1 n ++ beBytes 1 d ++ beBytes 2 y))
  | .samples tag xs => some (.t, frameBytes 97 tag (samplesPayload xs))
  | .sweepClose tag c => some (.t, frameBytes 98 tag (beBytes 2 c.toNat))
  | .depthQuery n tag d u v => some (.s n, frameBytes 128 tag (beBytes 2 d.toNat ++ beSigned 3 u ++ beSigned 3 v))
  | .touchOff n tag l => some (.s n, frameBytes 129 tag (beBytes 3 l))
  | _ => none

/-! ### The operation table's words -/

/-- The command that a word spells by the operation table's bits: the table gives no row any bits, so none. -/
def decodeTableWord (_nbits _w : Nat) : Option Instr := none

end Sys2Proof
end

