-- ==== Sys2Proof/Machine/State.lean ====
section
/-! DEFINITION. Everything the CS-6 holds, as plain data, and its values after power-on reset. -/

namespace Sys2Proof.Machine

open Sys2Proof

/-! ### Why a step can stop -/

/-- Why a command has no effect in a state. Each is raised where the command names an event that cannot occur in that
state, to which the spec gives no effect. All are safe: the hardware never takes that event there (log 1). -/
inductive Fault where
  /-- The taking of a request that is not the one at the front of the cell request queue (R167). Raised by the
  twenty-two request commands. Safe. -/
  | requestNotAtFront
  /-- A mark, urgency point, alarm firing, refresh interval expiry or row close timer expiry that the time base or a
  timer has not raised (R49, R52, R55, R134, R137). Raised by the five commands that take those events. Safe. -/
  | eventNotDue
  /-- The completion of an operation that is not in flight (R130). Raised by the five completion commands. Safe. -/
  | operationNotInFlight
  /-- The end of a start-up sequence that is not under way (R129). Raised by INITIALISATION_COMPLETE. Safe. -/
  | startUpNotUnderWay
  /-- An entry to be made with no drain job that has words left, or into a full queue (R37). Raised by
  FEEDER_MAKE_ENTRY. Safe. -/
  | feederWaits
  /-- A chunk sent in full with no chunk waiting on Port C (R154). Raised by WINDOW_CHUNK_SENT. Safe. -/
  | noChunkWaiting
  /-- A record given as bad that R165 judges good. Raised by BAD_RECORD. Safe. -/
  | recordIsGood
  /-- An access to a tile above 131,071: no such word exists (R128). Raised by READ_COMPLETE and WRITE_COMPLETE.
  Safe. -/
  | noSuchWord
  deriving DecidableEq, Repr

/-- Why a command has no meaning. No arm uses it: every command of the table has its meaning. -/
inductive Refusal where
  /-- The command has no meaning yet. Safe. -/
  | notModelled (mnemonic : String)
  deriving DecidableEq, Repr

/-! ### Sheets (chapter 1) -/

/-- What a dropout sample is written as (R27). -/
inductive DropPolicy where
  | void | hold
  deriving DecidableEq, Repr

/-- The states of a sheet that is not FREE (R6). -/
inductive SheetState where
  | filling | loading | scanning | ready | retiring
  deriving DecidableEq, Repr

/-- The fields of a RELIEF sheet (R2, R7). -/
structure Relief where
  href : Nat
  policy : DropPolicy
  accepted : Nat
  written : Nat
  deriving DecidableEq, Repr

/-- The kind of a sheet with the fields of that kind (R2). -/
inductive SheetKind where
  | relief (r : Relief)
  | letter (floor : Nat)
  deriving DecidableEq, Repr

/-- The geometry of a sheet and its base tile (R3). -/
structure Geometry where
  width : Nat
  height : Nat
  pitch : Nat
  quantum : Nat
  base : Nat
  deriving DecidableEq, Repr

/-- A sheet record that is not FREE (R6). -/
structure Sheet where
  state : SheetState
  kind : SheetKind
  geom : Geometry
  voidCount : Nat
  heldCount : Nat
  /-- The tag of the SHEET_READY waiting on the sheet (R16). -/
  readyWaiting : Option Tag
  /-- The tag of the SHEET_CLOSE waiting on the sheet (R18). -/
  closeWaiting : Option Tag
  deriving DecidableEq, Repr

/-! ### Ingest and drain (chapter 2) -/

inductive Direction where
  | forward | backward
  deriving DecidableEq, Repr

/-- One sweep in its slot (R23). `samples` holds the codes placed so far in column order. -/
structure Sweep where
  tag : Tag
  sheet : Nat
  row : Nat
  direction : Direction
  received : Nat
  long : Bool
  check : BitVec 16
  lastGood : Option Code
  samples : List Code
  deriving DecidableEq, Repr

/-- A sweep slot (R23). -/
inductive Slot where
  | free
  | filling (w : Sweep)
  | closed (w : Sweep)
  | draining (w : Sweep)
  deriving DecidableEq, Repr

/-- The tracer ingest (R23, R28, R34). -/
structure Ingest where
  slots : Vector Slot 2
  hold : Bool
  stray : Count32
  deriving DecidableEq, Repr

/-- A drain job (R36); `next` is its next word, the count of entries made so far. -/
inductive Job where
  | sweep (slot : Fin 2) (sheet row next : Nat)
  | fill (sheet next : Nat)
  | load (buffer : Fin 4) (sheet column row width height next : Nat)
  deriving DecidableEq, Repr

inductive EntryKind where
  | sweep | fill | load
  deriving DecidableEq, Repr

inductive MergeState where
  | none | needed | merged
  deriving DecidableEq, Repr

/-- A drain entry (R40). Lanes not in `lanes` hold 0 until the entry is MERGED, and no WRITE is issued before that. -/
structure Entry where
  sheet : Nat
  tile : Nat
  word : Nat
  lanes : BitVec 4
  codes : CellWord
  kind : EntryKind
  merge : MergeState
  endOfRow : Option Nat
  deriving DecidableEq, Repr

/-- The drain job list and the drain queue, each oldest first (R36, R40). -/
structure Drain where
  jobs : List Job
  queue : List Entry
  deriving DecidableEq, Repr

/-! ### Time (chapter 3) -/

/-- An alarm unit (R54). -/
structure AlarmUnit where
  compare : MachineTime
  mask : MachineTime
  enabled : Bool
  matching : Bool
  deriving DecidableEq, Repr

/-- The time base (section 3.1). The last three fields are the model's: the events that the time base has raised and
whose step has not been taken yet (log 2, log 3). -/
structure TimeBase where
  machineTime : MachineTime
  period : Nat
  window : Nat
  ticks : Nat
  frame : FrameNumber
  urgencyPassed : Bool
  alarms : Vector AlarmUnit 2
  markDue : Bool
  urgencyDue : Bool
  alarmDue : Vector Bool 2
  deriving DecidableEq, Repr

/-! ### Spindle contexts (chapter 4) -/

inductive SpindleState where
  | unbound | bound | retracted
  deriving DecidableEq, Repr

inductive ReleaseCondition where
  | none | nextMark | afterAlarm0 | afterAlarm1
  deriving DecidableEq, Repr

/-- A parameter set (R63). -/
structure Params where
  sheet : Option Nat
  originX : Int
  originY : Int
  ratio : Nat
  mirrorX : Bool
  mirrorY : Bool
  passFloor : Nat
  allowance : Nat
  plungeLimit : Nat
  vFactor : Nat
  toolNominal : Nat
  touchLimit : Nat
  deriving DecidableEq, Repr

/-- A spindle context (R61). -/
structure Context where
  state : SpindleState
  active : Params
  staged : Params
  release : ReleaseCondition
  alarmFired : Bool
  correction : Int
  pendingCorrection : Option Int
  resumePending : Bool
  held : Nat
  deriving DecidableEq, Repr

/-! ### Depth queries (chapter 5) -/

/-- The state of a fetch; DONE holds the word returned and whether it was uncorrectable (R80). -/
inductive FetchState where
  | waiting
  | issued
  | done (word : CellWord) (uncorrectable : Bool)
  deriving DecidableEq, Repr

/-- A fetch (R80); its bank is `tile mod 8` and its bank row `tile div 8`. -/
structure Fetch where
  tile : Nat
  word : Nat
  lanes : BitVec 4
  state : FetchState
  deriving DecidableEq, Repr

/-- A query record (R79). -/
structure QueryRecord where
  seq : Count32
  spindle : Fin 6
  tag : Tag
  due : FrameNumber
  urgent : Bool
  sheet : Nat
  i : Nat
  j : Nat
  fx : Nat
  fy : Nat
  params : Params
  correction : Int
  floor : Nat
  fetches : List Fetch
  deriving DecidableEq, Repr

/-- The query table: records in order of acceptance, and the sequence counter (R79). -/
structure QueryTable where
  records : List QueryRecord
  nextSeq : Count32
  deriving DecidableEq, Repr

/-- The outcomes of a DEPTH_REPLY (R97). -/
inductive DepthOutcome where
  | cut | outside | retract | heldVoid | heldAhead | heldLate | heldBusy | heldDuplicate
  | heldNotReady | heldNoSheet | heldUnbound
  deriving DecidableEq, Repr

/-- The modifiers of a DEPTH_REPLY (R98). -/
structure Modifiers where
  clampedLow : Bool
  clampedFloor : Bool
  limited : Bool
  aboveRef : Bool
  memory : Bool
  deriving DecidableEq, Repr

/-! ### Scheduler and memory port (chapters 6 and 7) -/

inductive BaseMode where
  | readFirst | writeFirst
  deriving DecidableEq, Repr

inductive Mode where
  | deadline | readFirst | writeFirst
  deriving DecidableEq, Repr

/-- The service scheduler (R126). -/
structure Scheduler where
  baseMode : BaseMode
  deadline : Bool
  refreshing : Bool
  windowAge : Nat
  windowIssued : Bool
  deriving DecidableEq, Repr

inductive MemoryState where
  | init | run
  deriving DecidableEq, Repr

/-- A bank: OPEN on a row or CLOSED, its row close timer (`none` stopped, `some 0` expired and its expiry not yet
taken), its close-wanted mark (R131, R134, R135), and whether it has been accessed since its last OPEN (R107). -/
structure Bank where
  row : Option Nat
  timer : Option Nat
  closeWanted : Bool
  accessed : Bool
  deriving DecidableEq, Repr

/-- The owner a READ was issued for (R130); a window READ names the sample row and the word of it. -/
inductive ReadOwner where
  | fetch (seq : Count32) (index : Nat)
  | merge
  | window (row word : Nat)
  deriving DecidableEq, Repr

/-- The five memory operations (R130). -/
inductive MemoryOp where
  | openRow (bank : Fin 8) (row : Nat)
  | closeRow (bank : Fin 8)
  | read (tile word : Nat) (owner : ReadOwner)
  | write (tile word : Nat) (codes : CellWord)
  | refresh
  deriving DecidableEq, Repr

/-- The operation in flight: the sheet it is for (R18), whether its owner has left so that its result is discarded
(R130), and whether a service reset has come since its issue (R144). -/
structure InFlight where
  op : MemoryOp
  sheet : Option Nat
  discard : Bool
  afterReset : Bool
  deriving DecidableEq, Repr

/-- The memory port controller (R143). `refreshLeft` is the ticks left of the refresh interval: `none` not running,
`some 0` expired and its expiry not yet taken. -/
structure MemoryPort where
  state : MemoryState
  banks : Vector Bank 8
  inFlight : Option InFlight
  owed : Nat
  refreshLeft : Option Nat
  deriving DecidableEq, Repr

/-- The attached memory: the data bytes that have been written, in one canonical form (addresses strictly rising; an
address not listed has no value), and the wrong bits of words, by word address (strictly rising, none zero). -/
structure Memory where
  cells : List Host.Cell
  wrong : List (Nat × StoredBits)
  deriving DecidableEq, Repr

/-! ### Window reader (chapter 8) -/

/-- The window read context (R153). `cursor` is the row taken up and its next word to offer; `voids` counts the VOID
codes of rows returned without reading that are not placed yet; `waiting` counts this window's chunks on Port C. -/
structure WindowRead where
  tag : Tag
  sheet : Nat
  column : Nat
  row : Nat
  width : Nat
  height : Nat
  cursor : Option (Nat × Nat)
  voids : Nat
  placed : Nat
  chunk : List Code
  cap : Nat
  hold : Nat
  nextIndex : Nat
  waiting : Nat
  deriving DecidableEq, Repr

/-! ### Records sent (chapters 9 and 10) -/

inductive SweepOutcome where
  | good | refused | rewound
  deriving DecidableEq, Repr

/-- The reasons of a SWEEP_RESULT (R33); LINK is sent in no record. -/
inductive SweepReason where
  | none | held | badValue | noSheet | wrongKind | rowOrder | slotsFull
  | superseded | short | long | check | flushed | closed | link
  deriving DecidableEq, Repr

/-- The results of a CELL_REPLY (R168), REFUSED with its reason. -/
inductive Reason where
  | badName | badValue | wrongState | overlap | noRoom | busy | noSheet
  deriving DecidableEq, Repr

inductive ReplyResult where
  | done | accepted | adjusted | cancelled
  | refused (r : Reason)
  deriving DecidableEq, Repr

/-- A drain job as STATUS_READ reports it (R171). -/
structure JobReport where
  kind : EntryKind
  sheet : Nat
  made : Nat
  buffer : Option Nat
  deriving DecidableEq, Repr

inductive SlotState where
  | free | filling | closed | draining
  deriving DecidableEq, Repr

/-- A sweep slot as STATUS_READ reports it: sheet, row and received count where it is not FREE (R23, R171). -/
structure SlotReport where
  state : SlotState
  sweep : Option (Nat × Nat × Nat)
  deriving DecidableEq, Repr

/-- The items of STATUS_READ, in the order of R171. -/
structure StatusReport where
  memory : MemoryState
  owed : Nat
  mode : Mode
  baseMode : BaseMode
  deadline : Bool
  refreshing : Bool
  windowAge : Nat
  occupancy : Nat
  jobs : List JobReport
  slots : List SlotReport
  hold : Bool
  stray : Count32
  queries : List Nat
  links : List Bool
  queued : Nat
  frame : FrameNumber
  machineTime : MachineTime
  deriving DecidableEq, Repr

/-- The items of SHEET_STATUS for a sheet that is not FREE (R19). -/
structure SheetReport where
  state : SheetState
  kind : SheetKind
  geom : Geometry
  extent : Nat
  fillProgress : Option Nat
  voidCount : Nat
  heldCount : Nat
  jobs : Nat
  entries : Nat
  queries : Nat
  windowReading : Bool
  readyWaiting : Bool
  closeWaiting : Bool
  deriving DecidableEq, Repr

/-- The body of a CELL_REPLY (R164); `sheet none` is the status of a FREE sheet. -/
inductive ReplyBody where
  | empty
  | value (v : Value)
  | total (n : Nat)
  | status (r : StatusReport)
  | sheet (r : Option SheetReport)
  | counters (cs : List Count32)
  deriving DecidableEq, Repr

/-- A record that the part makes for a port (R163, R164). -/
inductive OutRecord where
  | depthReply (tag : Tag) (frameLow : BitVec 16) (cut : Nat) (correction : Int) (outcome : DepthOutcome)
      (modifiers : Modifiers)
  | touchResult (tag : Tag) (accepted : Bool) (correction : Int)
  | frameMark (frame : FrameNumber) (time : MachineTime)
  | sweepResult (tag : Tag) (outcome : SweepOutcome) (row : Nat) (reason : SweepReason)
  | cellReply (tag : Tag) (kind : Nat) (result : ReplyResult) (body : ReplyBody)
  | windowChunk (tag : Tag) (index : Nat) (codes : List Code)
  | notice (sources : SourceSet) (frame : FrameNumber) (mode : Mode)
  deriving DecidableEq, Repr

/-- A station link (R160, R161): `toSend` holds the records made for the port, oldest first (log 7). -/
structure Link where
  up : Bool
  idle : Nat
  bad : Nat
  toSend : List OutRecord
  deriving DecidableEq, Repr

/-- The global settings (section 9.4). -/
structure Settings where
  framePeriod : Nat
  urgentWindow : Nat
  drainHigh : Nat
  drainLow : Nat
  windowStarve : Nat
  rowCloseTime : Nat
  refreshInterval : Nat
  chunkCap : Nat
  chunkHold : Nat
  noticeInterval : Nat
  noticeEnables : SourceSet
  alwaysSend : Bool
  deriving DecidableEq, Repr

/-- The notice unit (R175, R176). -/
structure Notices where
  pending : SourceSet
  interval : Nat
  deriving DecidableEq, Repr

/-! ### The whole part -/

/-- All the state of the CS-6, by block (section 0.3), and the queue of commands that wait. -/
structure State where
  /-- The power-on reset input is asserted (R174). -/
  resetAsserted : Bool
  /-- The number of the power-on whose undefined memory contents stand (the model's own; log 5). -/
  powerOns : Nat
  sheets : Vector (Option Sheet) 16
  ingest : Ingest
  drain : Drain
  time : TimeBase
  spindles : Vector Context 6
  queries : QueryTable
  sched : Scheduler
  port : MemoryPort
  mem : Memory
  /-- The four load buffers: FREE, or HELD with its codes (R147). -/
  buffers : Vector (Option (List Code)) 4
  window : Option WindowRead
  links : Vector Link 8
  cellQueue : List Request
  settings : Settings
  notices : Notices
  counters : Vector Count32 28
  /-- The commands that wait, first in first out (the model's own; log 8). -/
  pending : List Instr
  deriving DecidableEq, Repr

/-! ### Values after power-on reset -/

/-- The defaults of R63. -/
def Params.default : Params :=
  { sheet := none, originX := 0, originY := 0, ratio := 4096, mirrorX := false, mirrorY := false, passFloor := 0,
    allowance := 0, plungeLimit := 100, vFactor := 4096, toolNominal := 0, touchLimit := 500 }

/-- R77. -/
def Context.powerOn : Context :=
  { state := .unbound, active := .default, staged := .default, release := .none, alarmFired := false, correction := 0,
    pendingCorrection := none, resumePending := false, held := 0 }

/-- R59; no event stands raised. -/
def TimeBase.powerOn : TimeBase :=
  { machineTime := 0, period := 10000, window := 2000, ticks := 0, frame := 0, urgencyPassed := false,
    alarms := .replicate 2 { compare := 0, mask := 0, enabled := false, matching := true },
    markDue := false, urgencyDue := false, alarmDue := .replicate 2 false }

/-- The defaults of section 9.4. -/
def Settings.default : Settings :=
  { framePeriod := 10000, urgentWindow := 2000, drainHigh := 48, drainLow := 16, windowStarve := 8, rowCloseTime := 50,
    refreshInterval := 78, chunkCap := 256, chunkHold := 4, noticeInterval := 100, noticeEnables := 0,
    alwaysSend := false }

/-- R143. -/
def MemoryPort.powerOn : MemoryPort :=
  { state := .init, banks := .replicate 8 { row := none, timer := none, closeWanted := false, accessed := false },
    inFlight := none, owed := 0, refreshLeft := none }

/-- The part right after power-on reset: every block at its power-on values (R20, R44, R59, R77, R104, R126, R143, R147,
R159, R173, R180), the reset input released and the memory's start-up sequence under way (R174, R129). -/
def State.reset : State :=
  { resetAsserted := false
    powerOns := 0
    sheets := .replicate 16 none
    ingest := { slots := .replicate 2 .free, hold := false, stray := 0 }
    drain := { jobs := [], queue := [] }
    time := .powerOn
    spindles := .replicate 6 .powerOn
    queries := { records := [], nextSeq := 0 }
    sched := { baseMode := .readFirst, deadline := false, refreshing := false, windowAge := 0, windowIssued := false }
    port := .powerOn
    mem := { cells := [], wrong := [] }
    buffers := .replicate 4 none
    window := none
    links := .replicate 8 { up := false, idle := 0, bad := 0, toSend := [] }
    cellQueue := []
    settings := .default
    notices := { pending := 0, interval := 0 }
    counters := .replicate 28 0
    pending := [] }

/-- The three outcomes of a command. -/
abbrev Result := Host.Outcome State Fault Refusal

end Sys2Proof.Machine
end

