-- ==== Sys2Proof/Machine/Ops.lean ====
section
/-! DEFINITION. The named operations over the state: field updates, links and records sent, replies, counters, notices,
the attached memory, and the guards that commands share. -/

namespace Sys2Proof.Machine

open Sys2Proof

/-! ### Field updates -/

def State.setSheets (x : Vector (Option Sheet) 16) (s : State) : State := { s with sheets := x }
def State.setIngest (x : Ingest) (s : State) : State := { s with ingest := x }
def State.setDrain (x : Drain) (s : State) : State := { s with drain := x }
def State.setTime (x : TimeBase) (s : State) : State := { s with time := x }
def State.setSpindles (x : Vector Context 6) (s : State) : State := { s with spindles := x }
def State.setQueries (x : QueryTable) (s : State) : State := { s with queries := x }
def State.setSched (x : Scheduler) (s : State) : State := { s with sched := x }
def State.setPort (x : MemoryPort) (s : State) : State := { s with port := x }
def State.setMem (x : Memory) (s : State) : State := { s with mem := x }
def State.setBuffers (x : Vector (Option (List Code)) 4) (s : State) : State := { s with buffers := x }
def State.setWindow (x : Option WindowRead) (s : State) : State := { s with window := x }
def State.setLinks (x : Vector Link 8) (s : State) : State := { s with links := x }
def State.setCellQueue (x : List Request) (s : State) : State := { s with cellQueue := x }
def State.setSettings (x : Settings) (s : State) : State := { s with settings := x }
def State.setNotices (x : Notices) (s : State) : State := { s with notices := x }
def State.setCounters (x : Vector Count32 28) (s : State) : State := { s with counters := x }
def State.setPending (x : List Instr) (s : State) : State := { s with pending := x }

/-! ### Ports and the records sent on them (R161, R166) -/

/-- The place of a port among the eight: C, T, S1 to S6. It is also the place of its check-error counter (R179). -/
def portIndex : Port → Fin 8
  | .c => 0
  | .t => 1
  | .s n => ⟨n.val + 2, by omega⟩

def linkOf (s : State) (p : Port) : Link := s.links[portIndex p]

def setLink (p : Port) (l : Link) (s : State) : State := s.setLinks (s.links.set (portIndex p) l)

def portUp (s : State) (p : Port) : Bool := (linkOf s p).up

/-- A record made for a port: it joins the port's send order, or is discarded as it is made while the port is DOWN
(R161, R166). -/
def send (p : Port) (r : OutRecord) (s : State) : State :=
  if portUp s p then setLink p { linkOf s p with toSend := (linkOf s p).toSend ++ [r] } s else s

/-- A CELL_REPLY, with the tag and the kind of its request (R168). -/
def reply (tag : Tag) (kind : Nat) (result : ReplyResult) (body : ReplyBody) (s : State) : State :=
  send .c (.cellReply tag kind result body) s

/-- The answer of a request that carries no body (R164). -/
def answerRequest (q : Request) (result : ReplyResult) (s : State) : State := reply q.tag q.body.kind result .empty s

/-- The answer with a body (R164). -/
def answerWith (q : Request) (result : ReplyResult) (body : ReplyBody) (s : State) : State :=
  reply q.tag q.body.kind result body s

/-! ### The service counters (R179); counter number `n` of the table stands at place `n - 1` -/

def cntQueriesAccepted : Fin 28 := 8
def cntCut : Fin 28 := 9
def cntHeldVoid : Fin 28 := 10
def cntHeldAhead : Fin 28 := 11
def cntHeldLate : Fin 28 := 12
def cntOtherHeld : Fin 28 := 13
def cntRowHits : Fin 28 := 14
def cntOpens : Fin 28 := 15
def cntPreemptions : Fin 28 := 16
def cntWriteFirst : Fin 28 := 17
def cntDeadline : Fin 28 := 18
def cntOccupancy : Fin 28 := 19
def cntDrainWritten : Fin 28 := 20
def cntMergeReads : Fin 28 := 21
def cntSweepsGood : Fin 28 := 22
def cntSweepsRewound : Fin 28 := 23
def cntCorrected : Fin 28 := 24
def cntUncorrectable : Fin 28 := 25
def cntForcedRefreshes : Fin 28 := 26
def cntRefreshOverruns : Fin 28 := 27

/-- The check-error counter of a port (R179, counters 1 to 8). -/
def cntCheckErrors (p : Port) : Fin 28 := ⟨(portIndex p).val, by omega⟩

/-- A counter rises by a count, wrapping at 2³² (R179). -/
def countBy (c : Fin 28) (n : Nat) (s : State) : State :=
  s.setCounters (s.counters.set c (s.counters[c] + BitVec.ofNat 32 n))

/-- A counter rises by one (R179). -/
def count (c : Fin 28) (s : State) : State := countBy c 1 s

/-! ### Notices (R175 to R177) -/

/-- The notice sources with their codes (R164). -/
def srcSheetComplete : SourceSet := 1 <<< 0
def srcSweepRewound : SourceSet := 1 <<< 1
def srcLateReply : SourceSet := 1 <<< 2
def srcToolRange : SourceSet := 1 <<< 3
def srcMemoryFault : SourceSet := 1 <<< 4
def srcAlarm (unit : Fin 2) : SourceSet := 1 <<< (5 + unit.val)
def srcLinkChange : SourceSet := 1 <<< 7
def srcCheckError : SourceSet := 1 <<< 8
def srcDrainPressure : SourceSet := 1 <<< 9

/-- The urgent sources: TOOL_RANGE and MEMORY_FAULT (R175, R177). -/
def urgentSources : SourceSet := srcToolRange ||| srcMemoryFault

/-- The scheduler's mode: DEADLINE while the deadline flag is set, else the base mode (R111). -/
def modeOf (s : State) : Mode :=
  if s.sched.deadline then .deadline
  else match s.sched.baseMode with
    | .readFirst => .readFirst
    | .writeFirst => .writeFirst

/-- A NOTICE with the sources both pending and enabled, the frame number and the mode (R176). -/
def makeNotice (s : State) : State :=
  send .c (.notice (s.notices.pending &&& s.settings.noticeEnables) s.time.frame (modeOf s)) s

/-- A source is placed in the pending set; an urgent source that was not pending and is enabled makes a NOTICE at once
(R175, R177). -/
def raise (src : SourceSet) (s : State) : State :=
  let fresh := s.notices.pending &&& src = 0
  let s' := s.setNotices { s.notices with pending := s.notices.pending ||| src }
  if fresh ∧ src &&& urgentSources ≠ 0 ∧ src &&& s.settings.noticeEnables ≠ 0 then makeNotice s' else s'

/-! ### Sheets -/

/-- The record of a sheet number; `none` where it is FREE or outside 0 to 15 (R6). -/
def sheetAt (s : State) (n : Nat) : Option Sheet := (s.sheets[n]?).join

def setSheet (n : Nat) (x : Option Sheet) (s : State) : State := s.setSheets (s.sheets.setIfInBounds n x)

/-- The tiles of a sheet (R3). -/
def extentOf (g : Geometry) : Nat := (g.width / 32) * (g.height / 32)

/-- The geometry of a sheet number; that of a FREE number is empty, and no work of a FREE sheet exists (R17; log 19). -/
def geometryOf (s : State) (n : Nat) : Geometry :=
  match sheetAt s n with
  | some x => x.geom
  | none => { width := 0, height := 0, pitch := 0, quantum := 0, base := 0 }

/-! ### Spindles and replies to depth queries (R72, R96) -/

def setSpindle (n : Fin 6) (c : Context) (s : State) : State := s.setSpindles (s.spindles.set n c)

/-- The six spindles in order. -/
def allSpindles : List (Fin 6) := [0, 1, 2, 3, 4, 5]

/-- The eight banks, lowest first. -/
def allBanks : List (Fin 8) := [0, 1, 2, 3, 4, 5, 6, 7]

/-- The counter a reply raises; OUTSIDE and RETRACT raise none (R179). -/
def outcomeCounter : DepthOutcome → Option (Fin 28)
  | .cut => some cntCut
  | .heldVoid => some cntHeldVoid
  | .heldAhead => some cntHeldAhead
  | .heldLate => some cntHeldLate
  | .heldBusy => some cntOtherHeld
  | .heldDuplicate => some cntOtherHeld
  | .heldNotReady => some cntOtherHeld
  | .heldNoSheet => some cntOtherHeld
  | .heldUnbound => some cntOtherHeld
  | .outside => none
  | .retract => none

def noModifiers : Modifiers :=
  { clampedLow := false, clampedFloor := false, limited := false, aboveRef := false, memory := false }

/-- The making of a DEPTH_REPLY: the held depth takes the cut, the counter of the outcome rises, and the record goes
out on the spindle's port with the low 16 bits of the current frame number (R72, R96, R179). -/
def answerQuery (n : Fin 6) (tag : Tag) (outcome : DepthOutcome) (cut : Nat) (correction : Int) (mods : Modifiers)
    (s : State) : State :=
  let s := setSpindle n { s.spindles[n] with held := cut } s
  let s := match outcomeCounter outcome with
    | some c => count c s
    | none => s
  send (.s n) (.depthReply tag (s.time.frame.setWidth 16) cut correction outcome mods) s

/-- The cut of every held outcome: the smaller of the held depth as it stands and L (R83). -/
def heldCut (s : State) (n : Fin 6) (floor : Nat) : Nat := min s.spindles[n].held floor

/-! ### The operation in flight and its owner -/

def setInFlight (x : Option InFlight) (s : State) : State := s.setPort { s.port with inFlight := x }

/-- The owner of the operation in flight leaves where `p` holds of it: its result will be discarded (R130). -/
def discardInFlight (p : InFlight → Bool) (s : State) : State :=
  match s.port.inFlight with
  | some o => if p o then setInFlight (some { o with discard := true }) s else s
  | none => s

/-- Whether the operation in flight is for a sheet (R18). -/
def inFlightFor (s : State) (n : Nat) : Bool :=
  match s.port.inFlight with
  | some o => o.sheet == some n
  | none => false

/-- Whether an operation is the READ of a fetch of one of the records. -/
def ownedBy (rs : List QueryRecord) (o : InFlight) : Bool :=
  match o.op with
  | .read _ _ (.fetch seq _) => rs.any (fun r => r.seq == seq)
  | _ => false

/-- Whether an operation is a READ of the window reader. -/
def ownedByWindow (o : InFlight) : Bool :=
  match o.op with
  | .read _ _ (.window _ _) => true
  | _ => false

/-- Records leave the query table; the READ in flight of one of them has lost its owner (R79, R80). -/
def removeRecords (p : QueryRecord → Bool) (s : State) : State :=
  let gone := s.queries.records.filter p
  let s := discardInFlight (ownedBy gone) s
  s.setQueries { s.queries with records := s.queries.records.filter (fun r => !p r) }

/-! ### The attached memory (R128, R140) -/

/-- The address of a cell word: tile `t` holds words `256 t` to `256 t + 255` (R128). -/
def wordAddress (tile word : Nat) : Nat := 256 * tile + word

/-- The tiles of the memory (R5, R128). -/
def tileCount : Nat := 131072

/-- The byte at an address, where it has been written. -/
def lookupByte : List Host.Cell → Nat → Option Byte
  | [], _ => none
  | (a, b) :: rest, x => if a = x then some b else lookupByte rest x

/-- A byte stored at an address, in address order. -/
def storeByte (x : Nat) (v : Byte) : List Host.Cell → List Host.Cell
  | [] => [(x, v)]
  | (a, b) :: rest =>
    if x < a then (x, v) :: (a, b) :: rest
    else if x = a then (a, v) :: rest
    else (a, b) :: storeByte x v rest

/-- Byte `k` of a word: lane 0 lies at the lowest address, each lane with its high byte first (log 5). -/
def wordByte (w : CellWord) (k : Nat) : Byte := w.extractLsb' (16 * (k / 2) + 8 * (1 - k % 2)) 8

/-- A word of eight bytes in that order. -/
def wordOfBytes (f : Nat → Byte) : CellWord :=
  (f 6 ++ f 7) ++ (f 4 ++ f 5) ++ (f 2 ++ f 3) ++ (f 0 ++ f 1)

/-- The data bits as written; a byte that nothing has written is free (R140; log 5). -/
def storedWord (m : Memory) (powerOn a : Nat) : CellWord :=
  wordOfBytes (fun k => (lookupByte m.cells (8 * a + k)).getD (Config.unwrittenByte powerOn (8 * a + k)))

/-- Whether every byte of a word has been written. -/
def wordWritten (m : Memory) (a : Nat) : Bool :=
  (List.range 8).all (fun k => (lookupByte m.cells (8 * a + k)).isSome)

/-- The wrong bits of a word (R140). -/
def lookupWrong : List (Nat × StoredBits) → Nat → StoredBits
  | [], _ => 0
  | (a, b) :: rest, x => if a = x then b else lookupWrong rest x

/-- The wrong bits of a word replaced, in address order; none is listed where no bit is wrong. -/
def storeWrong (x : Nat) (v : StoredBits) : List (Nat × StoredBits) → List (Nat × StoredBits)
  | [] => if v = 0 then [] else [(x, v)]
  | (a, b) :: rest =>
    if x < a then (if v = 0 then (a, b) :: rest else (x, v) :: (a, b) :: rest)
    else if x = a then (if v = 0 then rest else (a, v) :: rest)
    else (a, b) :: storeWrong x v rest

/-- A WRITE stores all four lanes with a fresh check code, so no bit of the word is wrong (R132, R140). -/
def storeWord (a : Nat) (w : CellWord) (m : Memory) : Memory :=
  { cells := (List.range 8).foldl (fun cs k => storeByte (8 * a + k) (wordByte w k) cs) m.cells
    wrong := storeWrong a 0 m.wrong }

/-- Bits of a stored word go wrong (or back): R141's errors stay until the word is next written. -/
def upsetWord (a : Nat) (upset : StoredBits) (m : Memory) : Memory :=
  { m with wrong := storeWrong a (lookupWrong m.wrong a ^^^ upset) m.wrong }

/-- The finding of the word check (R141). -/
inductive Finding where
  | clean | corrected | uncorrectable
  deriving DecidableEq, Repr

def findingOfClass : Nat → Finding
  | 0 => .clean
  | 1 => .corrected
  | _ => .uncorrectable

/-- How many of the 72 bits are wrong. -/
def wrongCount (b : StoredBits) : Nat := (List.range 72).countP (fun i => b.getLsbD i)

/-- The finding for a word: clean with no wrong bit, a single error with one, uncorrectable with two, free with three or
more, and free for a word that nothing has written (R140, R141; log 5, log 6). -/
def findingOf (m : Memory) (powerOn a : Nat) : Finding :=
  let wrong := lookupWrong m.wrong a
  if wordWritten m a then
    match wrongCount wrong with
    | 0 => .clean
    | 1 => .corrected
    | 2 => .uncorrectable
    | _ => findingOfClass (Config.manyWrongFinding (storedWord m powerOn a) wrong)
  else findingOfClass (Config.unwrittenFinding powerOn a wrong)

/-- The data that a READ hands to its owner: the word as read, with the one wrong bit put right where a single error
was found (R132, R141). -/
def readWord (m : Memory) (powerOn a : Nat) : CellWord :=
  let wrong := lookupWrong m.wrong a
  let asRead := storedWord m powerOn a ^^^ wrong.setWidth 64
  match findingOf m powerOn a with
  | .corrected =>
    if wordWritten m a ∧ wrongCount wrong = 1 then storedWord m powerOn a
    else asRead ^^^ ((1 : StoredBits) <<< Config.miscorrectedBit asRead wrong).setWidth 64
  | _ => asRead

/-- Addresses strictly rise. -/
def risingKeys {α : Type} : List (Nat × α) → Bool
  | [] => true
  | [_] => true
  | (a, _) :: (b, y) :: rest => a < b && risingKeys ((b, y) :: rest)

/-- The canonical form of the memory: addresses strictly rising; an address not listed has no value; no word is listed
with no wrong bit. -/
def Memory.wf (m : Memory) : Bool :=
  risingKeys m.cells && risingKeys m.wrong && m.wrong.all (fun p => p.2 != 0)

/-! ### Guards that commands share -/

/-- While the reset input is asserted the part is held in its power-on state and takes nothing (R174; log 4). -/
def whileRunning (s : State) (k : Result) : Result := if s.resetAsserted then .next s else k

/-- The taking of a request from the front of the cell request queue (R167): it leaves the queue and is carried out. -/
def takeRequest (q : Request) (act : State → State) (s : State) : Result :=
  whileRunning s <|
    match s.cellQueue with
    | [] => .fault .requestNotAtFront
    | r :: rest => if r = q then .next (act (s.setCellQueue rest)) else .fault .requestNotAtFront

/-- A good record arrives on a port (R165): an UP port takes it and its bad count returns to 0. On a DOWN port it is not
taken, and its symbols return the idle count to 0 (R160). -/
def takeRecord (p : Port) (act : State → State) (s : State) : Result :=
  whileRunning s <|
    if portUp s p then .next (act (setLink p { linkOf s p with bad := 0 } s))
    else .next (setLink p { linkOf s p with idle := 0 } s)

/-- An event that a block has raised is taken; one that stands not raised cannot be (log 1). -/
def takeEvent (due : Bool) (why : Fault) (act : State → State) (s : State) : Result :=
  whileRunning s (if due then .next (act s) else .fault why)

end Sys2Proof.Machine
end

