-- ==== Sys2Proof/Machine/Operands.lean ====
section
/-! DEFINITION. Operand forms: the tiling of a sheet, lanes of a word, spindle sets, source sets, coded fields, and the
values that SET and GET carry. -/

namespace Sys2Proof.Machine

open Sys2Proof

/-! ### Tiles, words and lanes (R4, R5) -/

/-- The tile that holds the sample at column `x`, row `y` (R5). -/
def tileOf (g : Geometry) (x y : Nat) : Nat := g.base + (y / 32) * (g.width / 32) + x / 32

/-- The word of its tile that holds that sample (R4). -/
def wordOf (x y : Nat) : Nat := (y % 32) * 8 + (x % 32) / 4

/-- The lane of its word that holds the sample (R4). -/
def laneOf (x : Nat) : Nat := x % 32 % 4

/-- The bank of a tile (R5). -/
def bankOf (tile : Nat) : Fin 8 := Fin.ofNat 8 tile

/-- The bank row of a tile (R5). -/
def bankRowOf (tile : Nat) : Nat := tile / 8

/-- The code in a lane of a word (R128). -/
def lane (w : CellWord) (l : Nat) : Code := w.extractLsb' (16 * l) 16

/-- A word of four lanes. -/
def wordOfLanes (f : Nat → Code) : CellWord := (f 3 ++ f 2) ++ (f 1 ++ f 0)

/-- The lanes for which `p` holds. -/
def laneMask (p : Nat → Bool) : BitVec 4 :=
  (BitVec.ofBool (p 3) ++ BitVec.ofBool (p 2)) ++ (BitVec.ofBool (p 1) ++ BitVec.ofBool (p 0))

def allLanes : BitVec 4 := 15

/-- The lanes in the mask from `own`, the others from `other` (R42). -/
def mergeLanes (mask : BitVec 4) (own other : CellWord) : CellWord :=
  wordOfLanes (fun l => if mask.getLsbD l then lane own l else lane other l)

/-- VOID in every lane. -/
def voidWord : CellWord := wordOfLanes (fun _ => voidCode)

/-! ### Sets and coded fields (R61, R164, R178) -/

/-- The spindles of a spindle set, in order; `none` where it names a number outside 1 to 6 (R61, R164). -/
def spindlesOf (bits : BitVec 8) : Option (List (Fin 6)) :=
  if bits.getLsbD 6 || bits.getLsbD 7 then none else some (allSpindles.filter (fun n => bits.getLsbD n.val))

/-- The sources of a source set; `none` where a bit from 10 to 15 is set, which names no source (R164). -/
def sourcesOf (bits : BitVec 16) : Option SourceSet :=
  if bits >>> 10 = 0 then some (bits.setWidth 10) else none

/-- The spindle of a spindle number; `none` outside 1 to 6. -/
def spindleOfNumber (n : Nat) : Option (Fin 6) :=
  if h : 1 ≤ n ∧ n ≤ 6 then some ⟨n - 1, by omega⟩ else none

/-- A release condition by its code (R164). -/
def conditionOf : Nat → Option ReleaseCondition
  | 0 => some .none
  | 1 => some .nextMark
  | 2 => some .afterAlarm0
  | 3 => some .afterAlarm1
  | _ => none

def conditionName : ReleaseCondition → ValueName
  | .none => .none
  | .nextMark => .nextMark
  | .afterAlarm0 => .afterAlarm0
  | .afterAlarm1 => .afterAlarm1

def spindleStateName : SpindleState → ValueName
  | .unbound => .unbound
  | .bound => .bound
  | .retracted => .retracted

def onOff (b : Bool) : ValueName := if b then .on else .off
def setClear (b : Bool) : ValueName := if b then .set else .clear

/-- A dropout policy by its code (R164). -/
def policyOf : Nat → Option DropPolicy
  | 0 => some .void
  | 1 => some .hold
  | _ => none

/-- A sweep direction by its code (R163). -/
def directionOf : Nat → Option Direction
  | 0 => some .forward
  | 1 => some .backward
  | _ => none

/-- An enable by its code (R164). -/
def enableOf : Nat → Option Bool
  | 0 => some false
  | 1 => some true
  | _ => none

/-! ### Values of SET (R64, R169) -/

/-- What a SET of a value does to what it names. -/
inductive SetOutcome (α : Type) where
  | refused (r : Reason)
  | stored (x : α)
  | adjusted (x : α) (v : Value)

def clamp (lo hi n : Int) : Int := max lo (min hi n)

/-- A numeric setting: the number is fitted and stored, ADJUSTED where the fitted number differs (R169). -/
def setNumber {α : Type} (fit : Int → Int) (v : Value) (store : Int → α) : SetOutcome α :=
  match v with
  | .number n => if fit n = n then .stored (store n) else .adjusted (store (fit n)) (.number (fit n))
  | .name _ => .refused .badValue
  | .sources _ => .refused .badValue

/-- An enumerated setting with the names OFF and ON (R169). -/
def setOnOff {α : Type} (v : Value) (store : Bool → α) : SetOutcome α :=
  match v with
  | .name .off => .stored (store false)
  | .name .on => .stored (store true)
  | _ => .refused .badValue

/-- NOTICE_ENABLES: a source set, whole (R169). -/
def setSources {α : Type} (v : Value) (store : SourceSet → α) : SetOutcome α :=
  match v with
  | .sources b =>
    match sourcesOf b with
    | some x => .stored (store x)
    | none => .refused .badValue
  | _ => .refused .badValue

/-- SHEET: a sheet number from 0 to 15, or the name NONE (R64, R169). -/
def setSheetNumber {α : Type} (v : Value) (store : Option Nat → α) : SetOutcome α :=
  match v with
  | .number n => if 0 ≤ n ∧ n ≤ 15 then .stored (store (some n.toNat)) else .refused .badValue
  | .name .none => .stored (store none)
  | _ => .refused .badValue

/-- CHUNK_CAP: clamped to 64 to 1,024, then lowered to a multiple of 4 (R155, R169). -/
def fitChunkCap (n : Int) : Int := clamp 64 1024 n - clamp 64 1024 n % 4

/-- A global setting written (section 9.4, R48, R110, R123, R136, R139, R155, R156, R169, R176). -/
def setSetting (s : Settings) (n : SettingName) (v : Value) : SetOutcome Settings :=
  match n with
  | .framePeriod => setNumber (clamp 1000 100000) v (fun k => { s with framePeriod := k.toNat })
  | .urgentWindow => setNumber (clamp 100 100000) v (fun k => { s with urgentWindow := k.toNat })
  | .drainHigh => setNumber (clamp 8 64) v (fun k => { s with drainHigh := k.toNat })
  | .drainLow => setNumber (clamp 0 (s.drainHigh - 8 : Int)) v (fun k => { s with drainLow := k.toNat })
  | .windowStarve => setNumber (clamp 1 255) v (fun k => { s with windowStarve := k.toNat })
  | .rowCloseTime => setNumber (clamp 0 10000) v (fun k => { s with rowCloseTime := k.toNat })
  | .refreshInterval => setNumber (clamp 20 200) v (fun k => { s with refreshInterval := k.toNat })
  | .chunkCap => setNumber fitChunkCap v (fun k => { s with chunkCap := k.toNat })
  | .chunkHold => setNumber (clamp 1 64) v (fun k => { s with chunkHold := k.toNat })
  | .noticeInterval => setNumber (clamp 1 1000) v (fun k => { s with noticeInterval := k.toNat })
  | .noticeEnables => setSources v (fun b => { s with noticeEnables := b })
  | .alwaysSend => setOnOff v (fun b => { s with alwaysSend := b })

/-- A spindle parameter written (R63, R64). -/
def setParam (p : Params) (n : ParamName) (v : Value) : SetOutcome Params :=
  match n with
  | .sheet => setSheetNumber v (fun k => { p with sheet := k })
  | .originX => setNumber (clamp (-16777216) 16777215) v (fun k => { p with originX := k })
  | .originY => setNumber (clamp (-16777216) 16777215) v (fun k => { p with originY := k })
  | .ratio => setNumber (clamp 1024 32768) v (fun k => { p with ratio := k.toNat })
  | .mirrorX => setOnOff v (fun b => { p with mirrorX := b })
  | .mirrorY => setOnOff v (fun b => { p with mirrorY := b })
  | .passFloor => setNumber (clamp 0 2000000) v (fun k => { p with passFloor := k.toNat })
  | .allowance => setNumber (clamp 0 65535) v (fun k => { p with allowance := k.toNat })
  | .plungeLimit => setNumber (clamp 1 65535) v (fun k => { p with plungeLimit := k.toNat })
  | .vFactor => setNumber (clamp 1024 32767) v (fun k => { p with vFactor := k.toNat })
  | .toolNominal => setNumber (clamp 0 500000) v (fun k => { p with toolNominal := k.toNat })
  | .touchLimit => setNumber (clamp 0 2047) v (fun k => { p with touchLimit := k.toNat })

/-! ### Values of GET (R65, R164, R170) -/

/-- A global setting as stored (R170). -/
def getSetting (s : Settings) : SettingName → Value
  | .framePeriod => .number s.framePeriod
  | .urgentWindow => .number s.urgentWindow
  | .drainHigh => .number s.drainHigh
  | .drainLow => .number s.drainLow
  | .windowStarve => .number s.windowStarve
  | .rowCloseTime => .number s.rowCloseTime
  | .refreshInterval => .number s.refreshInterval
  | .chunkCap => .number s.chunkCap
  | .chunkHold => .number s.chunkHold
  | .noticeInterval => .number s.noticeInterval
  | .noticeEnables => .sources (s.noticeEnables.setWidth 16)
  | .alwaysSend => .name (onOff s.alwaysSend)

/-- A spindle parameter of a set (R65). -/
def getParam (p : Params) : ParamName → Value
  | .sheet =>
    match p.sheet with
    | some n => .number n
    | none => .name .none
  | .originX => .number p.originX
  | .originY => .number p.originY
  | .ratio => .number p.ratio
  | .mirrorX => .name (onOff p.mirrorX)
  | .mirrorY => .name (onOff p.mirrorY)
  | .passFloor => .number p.passFloor
  | .allowance => .number p.allowance
  | .plungeLimit => .number p.plungeLimit
  | .vFactor => .number p.vFactor
  | .toolNominal => .number p.toolNominal
  | .touchLimit => .number p.touchLimit

/-- A read-only spindle item (R65). -/
def getReadOnly (c : Context) : ReadOnlyName → Value
  | .spindleState => .name (spindleStateName c.state)
  | .correction => .number c.correction
  | .pendingCorrection =>
    match c.pendingCorrection with
    | some n => .number n
    | none => .name .none
  | .heldDepth => .number c.held
  | .releaseCondition => .name (conditionName c.release)
  | .alarmFired => .name (setClear c.alarmFired)
  | .resumePending => .name (setClear c.resumePending)

end Sys2Proof.Machine
end

