-- ==== Sys2Proof/Machine/Flags.lean ====
section
/-! DEFINITION. The flags and modes that the part judges: the deadline flag, the base mode, an alarm unit's match, and
the readiness of a LETTER sheet. -/

namespace Sys2Proof.Machine

open Sys2Proof

/-- Whether a fetch is WAITING. -/
def Fetch.isWaiting (f : Fetch) : Bool := f.state == .waiting

/-- The condition of the deadline flag: an urgent record has a fetch in state WAITING (R111). -/
def deadlineWanted (s : State) : Bool :=
  s.queries.records.any (fun r => r.urgent && r.fetches.any Fetch.isWaiting)

/-- The deadline flag judged; a change from clear to set counts (R111). -/
def judgeDeadline (s : State) : State :=
  let want := deadlineWanted s
  let s' := s.setSched { s.sched with deadline := want }
  if want && !s.sched.deadline then count cntDeadline s' else s'

/-- The low mark in force (R109, R110). -/
def lowMark (s : State) : Nat := min s.settings.drainLow (s.settings.drainHigh - 8)

/-- The base mode judged against the drain occupancy; an entry into WRITE_FIRST sets DRAIN_PRESSURE and counts
(R109). -/
def judgeBaseMode (s : State) : State :=
  match s.sched.baseMode with
  | .readFirst =>
    if s.settings.drainHigh ≤ s.drain.queue.length then
      count cntWriteFirst (raise srcDrainPressure (s.setSched { s.sched with baseMode := .writeFirst }))
    else s
  | .writeFirst =>
    if s.drain.queue.length ≤ lowMark s then s.setSched { s.sched with baseMode := .readFirst } else s

/-- Machine time matches a unit when every position not ignored agrees with the compare value (R54). -/
def alarmMatches (u : AlarmUnit) (t : MachineTime) : Bool := (t ^^^ u.compare) &&& ~~~u.mask = 0

/-- An alarm unit after its match is judged (R54). -/
def judgeAlarm (t : MachineTime) (u : AlarmUnit) : AlarmUnit := { u with matching := alarmMatches u t }

/-- The sheet of a drain job. -/
def Job.sheetOf : Job → Nat
  | .sweep _ n _ _ => n
  | .fill n _ => n
  | .load _ n _ _ _ _ _ => n

/-- The drain jobs of a sheet. -/
def jobsFor (s : State) (n : Nat) : List Job := s.drain.jobs.filter (fun j => j.sheetOf == n)

/-- The drain entries of a sheet. -/
def entriesFor (s : State) (n : Nat) : List Entry := s.drain.queue.filter (fun e => e.sheet == n)

/-- The test of a waiting SHEET_READY: the sheet is LOADING with no job and no entry; then it becomes READY and the
request is answered DONE (R16). -/
def testSheetReady (n : Nat) (s : State) : State :=
  match sheetAt s n with
  | none => s
  | some x =>
    match x.readyWaiting with
    | none => s
    | some tag =>
      if x.state = .loading ∧ (jobsFor s n).isEmpty ∧ (entriesFor s n).isEmpty then
        reply tag (CellRequest.sheetReady n).kind .done .empty
          (setSheet n (some { x with state := .ready, readyWaiting := none }) s)
      else s

end Sys2Proof.Machine
end

