-- ==== Sys2Proof/Machine/Window.lean ====
section
/-! DEFINITION. The window reader (section 8.4): rows taken up, words offered, samples and VOID codes placed, chunks
sent, and the end of a window. -/

namespace Sys2Proof.Machine

open Sys2Proof

def readWindowKind : Nat := (CellRequest.readWindow 0 0 0 0 0).kind

/-- Whether a window READ whose result will be delivered is in flight. -/
def windowReadInFlight (s : State) : Bool :=
  match s.port.inFlight with
  | some o => ownedByWindow o && !o.discard
  | none => false

/-- Whether the window reader reads a row of a sheet when it takes the row up (R154). -/
def rowReadable (s : State) (n y : Nat) : Bool :=
  match sheetAt s n with
  | none => false
  | some x =>
    match x.state, x.kind with
    | .ready, _ => true
    | .scanning, .relief r => y < r.written
    | _, _ => false

/-- The first and the last word of a window row (R154). -/
def firstWord (w : WindowRead) : Nat := w.column / 4
def lastWord (w : WindowRead) : Nat := (w.column + w.width - 1) / 4

/-- Rows taken up from row `y` on, `n` of them left: each is judged as the sheet stands. A readable row is offered word
by word; a row returned without reading leaves its VOID codes to place, and the next row is taken up at once (R154;
log 12). -/
def takeUpRows (readable : Nat → Bool) : Nat → Nat → WindowRead → WindowRead
  | 0, _, w => { w with cursor := none }
  | n + 1, y, w =>
    if readable y then { w with cursor := some (y, firstWord w) }
    else takeUpRows readable n (y + 1) { w with voids := w.voids + w.width }

/-- The reader after the READ of its offered word is issued: the next word of the row, or the next row (R154). -/
def advanceWindow (readable : Nat → Bool) (w : WindowRead) : WindowRead :=
  match w.cursor with
  | none => w
  | some (y, k) =>
    if k < lastWord w then { w with cursor := some (y, k + 1) }
    else takeUpRows readable (w.row + w.height - (y + 1)) (y + 1) w

/-- The word offered to the scheduler: none while a chunk of the window waits on Port C (R154). -/
def offeredWord (s : State) : Option (WindowRead × Nat × Nat) :=
  match s.window with
  | none => none
  | some w =>
    match w.cursor with
    | none => none
    | some (y, k) => if w.waiting = 0 then some (w, y, k) else none

/-- The open chunk sent as it is: its index, then a new chunk with hold count 0 (R155, R156). A chunk made while Port C
is DOWN is discarded and does not wait (R161). -/
def sendChunk (s : State) : State :=
  match s.window with
  | none => s
  | some w =>
    let s' := send .c (.windowChunk w.tag w.nextIndex w.chunk) s
    s'.setWindow (some { w with
      chunk := [], hold := 0, nextIndex := w.nextIndex + 1, waiting := if portUp s .c then w.waiting + 1 else w.waiting })

/-- The end of a window: a chunk that holds samples is sent, and READ_WINDOW is answered DONE with the total (R157). -/
def endWindow (s : State) : State :=
  match s.window with
  | none => s
  | some w =>
    let s' := if w.chunk.isEmpty then s else sendChunk s
    (reply w.tag readWindowKind .done (.total (w.width * w.height)) s').setWindow none

/-- One sample placed in the open chunk; a chunk takes its cap at its first sample and is sent at its cap (R155, R157). -/
def placeCode (c : Code) (s : State) : State :=
  match s.window with
  | none => s
  | some w =>
    let cap := if w.chunk.isEmpty then s.settings.chunkCap else w.cap
    let w' := { w with chunk := w.chunk ++ [c], cap := cap, placed := w.placed + 1 }
    let s' := s.setWindow (some w')
    let s' := if cap ≤ w'.chunk.length then sendChunk s' else s'
    if w'.placed = w'.width * w'.height then endWindow s' else s'

/-- VOID codes placed, at most `n`, while none of the window's chunks waits (R155). -/
def placeVoids : Nat → State → State
  | 0, s => s
  | n + 1, s =>
    match s.window with
    | none => s
    | some w =>
      if w.voids = 0 ∨ w.waiting ≠ 0 then s
      else placeVoids n (placeCode voidCode (s.setWindow (some { w with voids := w.voids - 1 })))

/-- The VOID codes that may be placed now: none while a window READ is in flight (R155). -/
def settleVoids (s : State) : State :=
  match s.window with
  | none => s
  | some w => if windowReadInFlight s then s else placeVoids w.voids s

/-- The columns of a word that lie inside the window, lowest first (R155). -/
def windowColumns (w : WindowRead) (k : Nat) : List Nat :=
  (List.range 4).map (fun l => 4 * k + l) |>.filter (fun x => w.column ≤ x ∧ x < w.column + w.width)

/-- The samples of a window READ placed, then the VOID codes that waited on it (R155); an uncorrectable word gives VOID
(R142). -/
def placeWord (k : Nat) (word : CellWord) (uncorrectable : Bool) (s : State) : State :=
  match s.window with
  | none => s
  | some w =>
    let codes := (windowColumns w k).map (fun x => if uncorrectable then voidCode else lane word (laneOf x))
    settleVoids (codes.foldl (fun s c => placeCode c s) s)

/-- The window read leaves with its offered word; a window READ in flight has lost its owner (R158, R159). -/
def dropWindow (s : State) : State := (discardInFlight ownedByWindow s).setWindow none

/-- The window read cancelled or abandoned, with the answer to READ_WINDOW (R158, R159). -/
def endWindowWith (result : ReplyResult) (s : State) : State :=
  match s.window with
  | none => s
  | some w => reply w.tag readWindowKind result .empty (dropWindow s)

/-- The hold count at a frame mark: the chunk goes out partly filled once the count reaches CHUNK_HOLD (R156). -/
def holdChunkAtMark (s : State) : State :=
  match s.window with
  | none => s
  | some w =>
    if w.chunk.isEmpty then s
    else
      let s' := s.setWindow (some { w with hold := w.hold + 1 })
      if s.settings.chunkHold ≤ w.hold + 1 then sendChunk s' else s'

/-- Whether a record is a WINDOW_CHUNK. -/
def OutRecord.isChunk : OutRecord → Bool
  | .windowChunk _ _ _ => true
  | _ => false

/-- What is left of a send order when its first chunk has been sent in full: records go out in order, so those before
it have gone too (R166; log 7). -/
def afterFirstChunk : List OutRecord → List OutRecord
  | [] => []
  | r :: rest => if r.isChunk then rest else afterFirstChunk rest

end Sys2Proof.Machine
end

