-- ==== Sys2Proof/Machine/Scheduler.lean ====
section
/-! DEFINITION. The service scheduler (chapter 6): candidates, the choice order, the issue of operations, refresh and
idle closes, and the row close judgement (R135) that reads the same candidates. -/

namespace Sys2Proof.Machine

open Sys2Proof

/-! ### Candidates (R108) -/

/-- A WAITING fetch as a candidate: its record's fields, its place in the fetch list, its tile and word. -/
structure QueryCandidate where
  seq : Count32
  index : Nat
  urgent : Bool
  due : FrameNumber
  sheet : Nat
  tile : Nat
  word : Nat
  deriving DecidableEq, Repr

/-- The WAITING fetches of a record from place `k` on, in fetch order. -/
def fetchCandidates (r : QueryRecord) : Nat → List Fetch → List QueryCandidate
  | _, [] => []
  | k, f :: rest =>
    let more := fetchCandidates r (k + 1) rest
    if f.isWaiting then ⟨r.seq, k, r.urgent, r.due, r.sheet, f.tile, f.word⟩ :: more else more

/-- The query class: every WAITING fetch, oldest record first (R108, R113). -/
def queryCandidates (s : State) : List QueryCandidate :=
  s.queries.records.flatMap (fun r => fetchCandidates r 0 r.fetches)

/-- The tile of the offered window word. -/
def windowTile (s : State) (w : WindowRead) (y k : Nat) : Nat := tileOf (geometryOf s w.sheet) (4 * k) y

/-- The bank of a tile is OPEN on its row: a row hit in the choosing sense (R107). -/
def isOpenOn (s : State) (tile : Nat) : Bool := s.port.banks[bankOf tile].row == some (bankRowOf tile)

/-- The tiles that candidates of any class name (R108, R135). -/
def candidateTiles (s : State) : List Nat :=
  (queryCandidates s).map (fun c => c.tile)
    ++ (match s.drain.queue with
        | e :: _ => [e.tile]
        | [] => [])
    ++ (match offeredWord s with
        | some (w, y, k) => [windowTile s w y k]
        | none => [])

/-- The first row hit, or the first of all where none is a row hit (R113). -/
def hitFirst (s : State) (cs : List QueryCandidate) : Option QueryCandidate :=
  match cs.find? (fun c => isOpenOn s c.tile) with
  | some c => some c
  | none => cs.head?

/-- The first query fetch in the order of R113. -/
def firstQuery (s : State) : Option QueryCandidate := hitFirst s (queryCandidates s)

/-- How many frames ahead of the current frame a due frame lies (R115; log 17). -/
def framesAhead (s : State) (d : FrameNumber) : Nat := (d - s.time.frame).toNat

/-- The DEADLINE order: urgent fetches alone; earliest due frame, then row hits, then the oldest (R115). -/
def firstUrgent (s : State) : Option QueryCandidate :=
  let urgent := (queryCandidates s).filter (fun c => c.urgent)
  match (urgent.map (fun c => framesAhead s c.due)).min? with
  | none => none
  | some d => hitFirst s (urgent.filter (fun c => framesAhead s c.due = d))

/-! ### Banks and timers (R131, R134, R135) -/

def setBank (b : Fin 8) (x : Bank) (s : State) : State :=
  s.setPort { s.port with banks := s.port.banks.set b x }

/-- A timer's start with the ROW_CLOSE_TIME setting; with 0 no timer runs (R134, R136). -/
def timerStart (s : State) : Option Nat :=
  if s.settings.rowCloseTime = 0 then none else some s.settings.rowCloseTime

def startTimer (b : Fin 8) (s : State) : State := setBank b { s.port.banks[b] with timer := timerStart s } s

/-- The timer stopped and the mark cleared, at an issue to the bank (R131, R132). -/
def touchBank (b : Fin 8) (s : State) : State :=
  setBank b { s.port.banks[b] with timer := none, closeWanted := false } s

/-- A candidate of any class names the bank and its open row (R135). -/
def rowWanted (s : State) (b : Fin 8) (row : Nat) : Bool :=
  (candidateTiles s).any (fun t => bankOf t == b && bankRowOf t == row)

/-- The judgement of R135 on a bank OPEN on `row`: where a candidate names the row, the timer starts with the ROW_CLOSE_TIME
setting as it stands, and with 0 stays stopped (R136); where none does, the bank is marked close-wanted with its timer
stopped. -/
def judgeRow (b : Fin 8) (row : Nat) (s : State) : State :=
  if rowWanted s b row then startTimer b s else setBank b { s.port.banks[b] with timer := none, closeWanted := true } s

/-- ROW_CLOSE_TIME 0 leaves a bank OPEN and unmarked with no timer; it is judged at each completion for as long as it is so,
also once the setting is no longer 0 (R135, R136; log 15). -/
def judgeBank (b : Fin 8) (s : State) : State :=
  let k := s.port.banks[b]
  match k.row, k.timer, k.closeWanted with
  | some row, none, false => judgeRow b row s
  | _, _, _ => s

def judgeBanks (s : State) : State := allBanks.foldl (fun s b => judgeBank b s) s

/-! ### Issues (R106, R107) -/

/-- An access to a bank: its timer is stopped and its mark cleared, and the access counts as a row hit unless it is the
first since the bank's last OPEN (R107, R132). -/
def accessBank (b : Fin 8) (s : State) : State :=
  let s := if s.port.banks[b].accessed then count cntRowHits s else s
  setBank b { s.port.banks[b] with timer := none, closeWanted := false, accessed := true } s

def issueOpen (b : Fin 8) (row : Nat) (s : State) : State :=
  count cntOpens (setInFlight (some ⟨.openRow b row, none, false, false⟩) s)

def issueClose (b : Fin 8) (s : State) : State :=
  touchBank b (setInFlight (some ⟨.closeRow b, none, false, false⟩) s)

/-- A fetch moves from WAITING to ISSUED (R80, R106). -/
def markIssued (c : QueryCandidate) (s : State) : State :=
  s.setQueries { s.queries with
    records := s.queries.records.map (fun r =>
      if r.seq = c.seq then
        { r with fetches := r.fetches.modify c.index (fun f => { f with state := .issued }) }
      else r) }

/-- The READ of a query fetch; the deadline flag is judged at the issue (R106, R111). -/
def issueFetch (c : QueryCandidate) (s : State) : State :=
  judgeDeadline (markIssued c (accessBank (bankOf c.tile)
    (setInFlight (some ⟨.read c.tile c.word (.fetch c.seq c.index), some c.sheet, false, false⟩) s)))

/-- The drain head's merge READ or its WRITE (R41, R106). -/
def issueDrain (e : Entry) (s : State) : State :=
  match e.merge with
  | .needed =>
    count cntMergeReads (accessBank (bankOf e.tile)
      (setInFlight (some ⟨.read e.tile e.word .merge, some e.sheet, false, false⟩) s))
  | .none | .merged =>
    accessBank (bankOf e.tile) (setInFlight (some ⟨.write e.tile e.word e.codes, some e.sheet, false, false⟩) s)

/-- The window READ: the reader takes up its next word or row, and the window-issued flag is set; a promoted READ
returns the window age to 0 (R106, R121, R122). -/
def issueWindow (promoted : Bool) (w : WindowRead) (y k : Nat) (s : State) : State :=
  let tile := windowTile s w y k
  let readable := rowReadable s w.sheet
  let s := accessBank (bankOf tile)
    (setInFlight (some ⟨.read tile (wordOf (4 * k) y) (.window y k), some w.sheet, false, false⟩) s)
  let s := s.setWindow (some (advanceWindow readable w))
  s.setSched { s.sched with windowIssued := true, windowAge := if promoted then 0 else s.sched.windowAge }

/-- Toward an access: what its bank needs next (R106). `closing` is applied where a CLOSE is issued. -/
def toward (tile : Nat) (access closing : State → State) (s : State) : State :=
  let b := bankOf tile
  match s.port.banks[b].row with
  | some row => if row = bankRowOf tile then access s else issueClose b (closing s)
  | none => issueOpen b (bankRowOf tile) s

/-! ### The choice (R112) -/

/-- A CLOSE for an urgent fetch counts a preemption when a non-urgent WAITING fetch needs the row being closed
(R119). -/
def countPreemption (b : Fin 8) (s : State) : State :=
  if (queryCandidates s).any (fun c => !c.urgent && bankOf c.tile == b && isOpenOn s c.tile) then
    count cntPreemptions s
  else s

/-- The next operation of a refresh: a CLOSE of the lowest OPEN bank, or the REFRESH, at whose issue the refresh is no
longer in progress (R117). -/
def refreshNext (s : State) : State :=
  match allBanks.find? (fun b => s.port.banks[b].row.isSome) with
  | some b => issueClose b (s.setSched { s.sched with refreshing := true })
  | none => setInFlight (some ⟨.refresh, none, false, false⟩) (s.setSched { s.sched with refreshing := false })

def towardQuery (c : QueryCandidate) (s : State) : State := toward c.tile (issueFetch c) id s

def towardUrgent (c : QueryCandidate) (s : State) : State :=
  toward c.tile (issueFetch c) (countPreemption (bankOf c.tile)) s

def towardDrain (e : Entry) (s : State) : State := toward e.tile (issueDrain e) id s

def towardWindow (promoted : Bool) (w : WindowRead) (y k : Nat) (s : State) : State :=
  toward (windowTile s w y k) (issueWindow promoted w y k) id s

/-- The access chosen by the base mode's order, where one is wanted (R114). -/
def towardByBaseMode (s : State) : Option State :=
  let query := (firstQuery s).map (fun c => towardQuery c s)
  let window := (offeredWord s).map (fun (w, y, k) => towardWindow false w y k s)
  let drain := s.drain.queue.head?.map (fun e => towardDrain e s)
  match s.sched.baseMode with
  | .readFirst => query.or (window.or drain)
  | .writeFirst => drain.or (query.or window)

/-- The promoted window word of step 5 (R122). -/
def promotedWord (s : State) : Option (WindowRead × Nat × Nat) :=
  if s.settings.windowStarve ≤ s.sched.windowAge then offeredWord s else none

/-- The lowest bank marked close-wanted and OPEN (R120). -/
def idleCloseBank (s : State) : Option (Fin 8) :=
  allBanks.find? (fun b => s.port.banks[b].closeWanted && s.port.banks[b].row.isSome)

/-- Steps 6 to 9 of the choice order: an access, a refresh of 1 to 3 owed, an idle close, nothing (R112). -/
def chooseUnforced (s : State) : State :=
  match towardByBaseMode s with
  | some s' => s'
  | none =>
    if 1 ≤ s.port.owed then refreshNext s
    else match idleCloseBank s with
      | some b => issueClose b s
      | none => s

/-- Steps 1 to 5 of the choice order, then the rest (R112). -/
def chooseStep (s : State) : State :=
  if s.sched.refreshing then refreshNext s
  else if 8 ≤ s.port.owed then refreshNext (count cntForcedRefreshes s)
  else match (if s.sched.deadline then firstUrgent s else none) with
    | some c => towardUrgent c s
    | none =>
      if 4 ≤ s.port.owed then refreshNext s
      else match promotedWord s with
        | some (w, y, k) => towardWindow true w y k s
        | none => chooseUnforced s

/-- The choice, made with the memory in RUN and no operation in flight (R105). -/
def choose (s : State) : State :=
  if s.port.state = .run ∧ s.port.inFlight = none then chooseStep s else s

end Sys2Proof.Machine
end

