-- ==== Sys2Proof/Machine/Depth.lean ====
section
/-! DEFINITION. The depth computation (sections 5.2 to 5.5): due frame, mapping, needed samples, fetches, interpolation,
depth, clamp and plunge bound, in exact integers. `Int` division by a positive divisor rounds toward minus infinity. -/

namespace Sys2Proof.Machine

open Sys2Proof

/-! ### The due frame (R81) -/

/-- The offset k, from −32,768 to 32,767 (R81). -/
def dueOffset (due16 : BitVec 16) (frame : FrameNumber) : Int := (due16 - frame.setWidth 16).toInt

/-- The due frame: the current frame number plus k, k clamped to 4 (R81). -/
def dueFrame (due16 : BitVec 16) (frame : FrameNumber) : FrameNumber :=
  frame + BitVec.ofInt 32 (min (dueOffset due16 frame) 4)

/-! ### The floor limit (R83) -/

/-- L over a sheet: P for RELIEF, the smaller of P and F for LETTER (R83). -/
def floorLimit (passFloor : Nat) (x : Sheet) : Nat :=
  match x.kind with
  | .relief _ => passFloor
  | .letter f => min passFloor f

/-- L of an immediate reply: a LETTER sheet counts when it is not FREE or RETIRING (R83). -/
def immediateFloor (s : State) (p : Params) : Nat :=
  match p.sheet.bind (sheetAt s) with
  | none => p.passFloor
  | some x => if x.state = .retiring then p.passFloor else floorLimit p.passFloor x

/-! ### Stage 1: mapping (R85) -/

/-- A grid position in 256ths of a pitch (R85). -/
def gridPosition (origin : Int) (mirror : Bool) (ratio pitch : Nat) (u : Int) : Int :=
  (4096 * origin + (if mirror then -1 else 1) * ratio * u) / (16 * pitch)

/-- Whether a grid position lies outside `n` columns or rows (R85). -/
def outsideGrid (g : Int) (n : Nat) : Bool := g < 0 || 256 * ((n : Int) - 1) < g

/-- The lower column or row of the interpolation cell (R85). -/
def cellIndex (g : Int) (n : Nat) : Nat := min (g.toNat / 256) (n - 2)

/-- The fraction of the cell, 0 to 256 (R85). -/
def cellFraction (g : Int) (n : Nat) : Nat := g.toNat - 256 * cellIndex g n

/-! ### Stage 2: needed samples and fetches (R86, R88) -/

/-- The needed columns (or rows) of a cell: those whose weight is not zero (R86). -/
def neededOf (i f : Nat) : List Nat :=
  (if f < 256 then [i] else []) ++ (if 0 < f then [i + 1] else [])

/-- The fetches of one needed row: one for each distinct word that holds a needed column (R88). -/
def rowFetches (g : Geometry) (y : Nat) (columns : List Nat) : List Fetch :=
  let words := (columns.map (fun x => x / 4)).foldl (fun ws k => if ws.contains k then ws else ws ++ [k]) []
  words.map (fun k =>
    { tile := tileOf g (4 * k) y, word := wordOf (4 * k) y,
      lanes := laneMask (fun l => columns.contains (4 * k + l)), state := .waiting })

/-- The fetches of a query, row j before row j + 1 (R88, R108). -/
def queryFetches (g : Geometry) (i j fx fy : Nat) : List Fetch :=
  (neededOf j fy).flatMap (fun y => rowFetches g y (neededOf i fx))

/-- The frontier test: every needed row passes (R87). -/
def frontierPasses (x : Sheet) (rows : List Nat) : Bool :=
  match x.state, x.kind with
  | .ready, _ => true
  | .scanning, .relief r => rows.all (fun y => y < r.written)
  | _, _ => false

/-! ### Stage 3: interpolation (R91, R92) -/

/-- The sample at column `x`, row `y` from the words of the fetches; 0 where it is not among them (R92). -/
def sampleAt (g : Geometry) (fs : List Fetch) (x y : Nat) : Code :=
  match fs.find? (fun f => f.tile = tileOf g x y ∧ f.word = wordOf x y) with
  | some { state := .done w _, .. } => lane w (laneOf x)
  | _ => 0

/-- A needed sample's code, and 0 for a sample that is not needed (R92). -/
def sampleOrZero (g : Geometry) (r : QueryRecord) (x y : Nat) : Nat :=
  if (neededOf r.i r.fx).contains x && (neededOf r.j r.fy).contains y then (sampleAt g r.fetches x y).toNat else 0

/-- Whether a needed sample holds VOID (R91). -/
def voidNeeded (g : Geometry) (r : QueryRecord) : Bool :=
  (neededOf r.j r.fy).any (fun y => (neededOf r.i r.fx).any (fun x => sampleAt g r.fetches x y == voidCode))

/-- Whether a fetch's word was found uncorrectable (R91). -/
def badWord (r : QueryRecord) : Bool :=
  r.fetches.any (fun f => match f.state with
    | .done _ bad => bad
    | _ => false)

/-- The interpolation sum s (R92). -/
def interpolationSum (h00 h10 h01 h11 fx fy : Nat) : Nat :=
  (h00 * (256 - fx) + h10 * fx) * (256 - fy) + (h01 * (256 - fx) + h11 * fx) * fy

/-- H_int: s × q / 65,536 to the nearest micrometre, ties up (R92). -/
def roundHeight (s q : Nat) : Nat := (s * q + 32768) / 65536

/-- H_int of a record (R92). -/
def interpolate (g : Geometry) (r : QueryRecord) : Nat :=
  roundHeight (interpolationSum (sampleOrZero g r r.i r.j) (sampleOrZero g r (r.i + 1) r.j)
    (sampleOrZero g r r.i (r.j + 1)) (sampleOrZero g r (r.i + 1) (r.j + 1)) r.fx r.fy) g.quantum

/-! ### Stages 4 to 7: depth, allowance, clamp, plunge bound (R93 to R95) -/

/-- The depth on the blank d_b, and ABOVE_REF (R93). -/
def blankDepth (x : Sheet) (p : Params) (height : Nat) : Nat × Bool :=
  match x.kind with
  | .relief r => ((r.href - height) * 4096 / p.ratio, r.href < height)
  | .letter _ => (height * p.vFactor / p.ratio, false)

/-- The cut after the allowance, the clamp to [0, L] and the plunge bound, with its modifiers (R94, R95). -/
def boundCut (d_b allowance floor held plunge : Nat) (aboveRef : Bool) : Nat × Modifiers :=
  let d_c : Int := (d_b : Int) - allowance
  let clamped : Nat := if d_c < 0 then 0 else if (floor : Int) < d_c then floor else d_c.toNat
  let cut := if held + plunge < clamped then held + plunge else clamped
  (cut, { clampedLow := d_c < 0, clampedFloor := (floor : Int) < d_c, limited := held + plunge < clamped,
          aboveRef := aboveRef, memory := false })

/-- The answer of a record whose fetches are all DONE: HELD_VOID, or CUT (R91 to R95). -/
def computeAnswer (x : Sheet) (r : QueryRecord) (held : Nat) : DepthOutcome × Nat × Modifiers :=
  if badWord r then (.heldVoid, min held r.floor, { noModifiers with memory := true })
  else if voidNeeded x.geom r then (.heldVoid, min held r.floor, noModifiers)
  else
    let (d_b, above) := blankDepth x r.params (interpolate x.geom r)
    let (cut, mods) := boundCut d_b r.params.allowance r.floor held r.params.plungeLimit above
    (.cut, cut, mods)

end Sys2Proof.Machine
end

