-- ==== Sys2Proof/Machine/Query.lean ====
section
/-! DEFINITION. Depth queries (chapter 5): arrival, acceptance, the completion of a fetch, and the answers that marks,
closes and retracts make. -/

namespace Sys2Proof.Machine

open Sys2Proof

/-- The answer that R82 makes at arrival, where one of its seven checks holds. -/
def arrivalOutcome (s : State) (n : Fin 6) (tag : Tag) (due16 : BitVec 16) : Option DepthOutcome :=
  let c := s.spindles[n]
  let mine := s.queries.records.filter (fun r => r.spindle == n)
  if c.state = .retracted then some .retract
  else if c.state = .unbound then some .heldUnbound
  else if 4 ≤ mine.length then some .heldBusy
  else if mine.any (fun r => r.tag == tag) then some .heldDuplicate
  else if dueOffset due16 s.time.frame ≤ 0 then some .heldLate
  else match c.active.sheet.bind (sheetAt s) with
    | none => some .heldNoSheet
    | some x =>
      match x.state with
      | .retiring => some .heldNoSheet
      | .filling => some .heldNotReady
      | .loading => some .heldNotReady
      | .scanning => none
      | .ready => none

/-- The cut of an outcome that cuts nothing new: 0 for RETRACT and OUTSIDE, the held cut for the rest (R83, R97). -/
def outcomeCut (s : State) (n : Fin 6) (outcome : DepthOutcome) (floor : Nat) : Nat :=
  match outcome with
  | .retract => 0
  | .outside => 0
  | _ => heldCut s n floor

/-- The record of an accepted query (R79, R84, R85), before its fetches are created. -/
def newRecord (s : State) (n : Fin 6) (tag : Tag) (due16 : BitVec 16) (sheet : Nat) (x : Sheet) (gx gy : Int) :
    QueryRecord :=
  let c := s.spindles[n]
  let due := dueFrame due16 s.time.frame
  { seq := s.queries.nextSeq, spindle := n, tag := tag, due := due,
    urgent := s.time.urgencyPassed && due == s.time.frame + 1, sheet := sheet,
    i := cellIndex gx x.geom.width, j := cellIndex gy x.geom.height,
    fx := cellFraction gx x.geom.width, fy := cellFraction gy x.geom.height,
    params := c.active, correction := c.correction, floor := floorLimit c.active.passFloor x, fetches := [] }

/-- The acceptance of a query (R84): answered OUTSIDE or HELD_AHEAD at once, or placed in the table with its fetches. -/
def acceptQuery (n : Fin 6) (tag : Tag) (due16 : BitVec 16) (u v : Int) (sheet : Nat) (x : Sheet) (s : State) : State :=
  let p := s.spindles[n].active
  let gx := gridPosition p.originX p.mirrorX p.ratio x.geom.pitch u
  let gy := gridPosition p.originY p.mirrorY p.ratio x.geom.pitch v
  let r := newRecord s n tag due16 sheet x gx gy
  let s := count cntQueriesAccepted (s.setQueries { s.queries with nextSeq := s.queries.nextSeq + 1 })
  if outsideGrid gx x.geom.width || outsideGrid gy x.geom.height then
    answerQuery n tag .outside 0 r.correction noModifiers s
  else if !frontierPasses x (neededOf r.j r.fy) then
    answerQuery n tag .heldAhead (heldCut s n r.floor) r.correction noModifiers s
  else
    let r := { r with fetches := queryFetches x.geom r.i r.j r.fx r.fy }
    judgeDeadline (s.setQueries { s.queries with records := s.queries.records ++ [r] })

/-- A DEPTH_QUERY taken from its port: answered at arrival or accepted (R82, R84), then a choice where the port is idle
(R105). -/
def takeQuery (n : Fin 6) (tag : Tag) (due16 : BitVec 16) (u v : Int) (s : State) : State :=
  let p := s.spindles[n].active
  match arrivalOutcome s n tag due16 with
  | some o =>
    answerQuery n tag o (outcomeCut s n o (immediateFloor s p)) s.spindles[n].correction noModifiers s
  | none =>
    match p.sheet with
    | none => s
    | some sheet =>
      match sheetAt s sheet with
      | none => s
      | some x => choose (acceptQuery n tag due16 u v sheet x s)

/-- DEPTH_QUERY (R82). -/
def execDepthQuery (n : Fin 6) (tag : Tag) (due16 : BitVec 16) (u v : Int) (s : State) : Result :=
  takeRecord (.s n) (takeQuery n tag due16 u v) s

/-! ### Fetch completion (R89) -/

/-- The answer of a record at the completion of its last fetch (R89, R91). Its sheet is open, since a close removes its
records; were it not, the answer would be HELD_NO_SHEET (log 19). -/
def answerRecord (r : QueryRecord) (s : State) : State :=
  match sheetAt s r.sheet with
  | some x =>
    let (o, cut, mods) := computeAnswer x r s.spindles[r.spindle].held
    answerQuery r.spindle r.tag o cut r.correction mods s
  | none => answerQuery r.spindle r.tag .heldNoSheet (heldCut s r.spindle r.floor) r.correction noModifiers s

/-- A fetch becomes DONE with the word read; the last fetch's completion answers the query and removes its record. The
deadline flag follows the fetches that are WAITING (R80, R89, R111). -/
def deliverFetch (seq : Count32) (index : Nat) (word : CellWord) (uncorrectable : Bool) (s : State) : State :=
  let finish (r : QueryRecord) : QueryRecord :=
    { r with fetches := r.fetches.modify index (fun f => { f with state := .done word uncorrectable }) }
  let isDone (f : Fetch) : Bool := match f.state with
    | .done _ _ => true
    | _ => false
  match s.queries.records.find? (fun r => r.seq == seq) with
  | none => s
  | some r =>
    if (finish r).fetches.all isDone then
      judgeDeadline (removeRecords (fun x => x.seq == seq) (answerRecord (finish r) s))
    else
      judgeDeadline (s.setQueries { s.queries with
        records := s.queries.records.map (fun x => if x.seq = seq then finish x else x) })

/-! ### Answers to records in the table -/

/-- Records answered with an outcome, oldest first, and removed (R97, R101, R102). -/
def answerAndRemove (p : QueryRecord → Bool) (outcome : DepthOutcome) (s : State) : State :=
  let answered := (s.queries.records.filter p).foldl
    (fun s r => answerQuery r.spindle r.tag outcome (outcomeCut s r.spindle outcome r.floor) r.correction noModifiers s) s
  judgeDeadline (removeRecords p answered)

/-- Records withdrawn without reply (R103, R104). -/
def withdrawQueries (p : QueryRecord → Bool) (s : State) : State := judgeDeadline (removeRecords p s)

/-- HELD_LATE at the mark for every record due at the new frame; LATE_REPLY is set at the first (R101). -/
def lateAtMark (s : State) : State :=
  let p (r : QueryRecord) : Bool := r.due == s.time.frame
  let s' := answerAndRemove p .heldLate s
  if s.queries.records.any p then raise srcLateReply s' else s'

/-- The records due at the mark after the current frame become urgent (R100). -/
def markUrgent (s : State) : State :=
  s.setQueries { s.queries with
    records := s.queries.records.map (fun r =>
      if r.due = s.time.frame + 1 then { r with urgent := true } else r) }

/-- The count of records whose due frame lies beyond the current frame number (R179; log 18). -/
def occupancyAtMark (s : State) : Nat :=
  s.queries.records.countP (fun r => 0 < (r.due - s.time.frame).toInt)

end Sys2Proof.Machine
end

