-- ==== Sys2Proof/Machine/Ingest.lean ====
section
/-! DEFINITION. The tracer ingest (sections 2.1 to 2.6): sweep open, samples, sweep close, rewinds, and the cell
computer's hold, release and flush. -/

namespace Sys2Proof.Machine

open Sys2Proof

def setSlot (i : Fin 2) (x : Slot) (s : State) : State :=
  s.setIngest { s.ingest with slots := s.ingest.slots.set i x }

/-- The sweep of a slot in state FILLING. -/
def Slot.filling? : Slot → Option Sweep
  | .filling w => some w
  | _ => none

def Slot.isFree : Slot → Bool
  | .free => true
  | _ => false

/-- The FILLING sweep and its slot; at most one sweep is FILLING (R23). -/
def fillingSweep (s : State) : Option (Fin 2 × Sweep) :=
  match s.ingest.slots[(0 : Fin 2)].filling? with
  | some w => some (0, w)
  | none => s.ingest.slots[(1 : Fin 2)].filling?.map (fun w => (1, w))

/-- The slot a new sweep takes when none is FILLING: slot 0 if it is FREE, and slot 1 otherwise (R25). -/
def freeSlot (s : State) : Option (Fin 2) :=
  if s.ingest.slots[(0 : Fin 2)].isFree then some 0
  else if s.ingest.slots[(1 : Fin 2)].isFree then some 1
  else none

/-- The sheet's RELIEF fields, where it is a RELIEF sheet. -/
def Sheet.relief? (x : Sheet) : Option Relief :=
  match x.kind with
  | .relief r => some r
  | .letter _ => none

def sendSweepResult (tag : Tag) (o : SweepOutcome) (row : Nat) (r : SweepReason) (s : State) : State :=
  send .t (.sweepResult tag o row r) s

/-! ### Rewinds (R32) -/

/-- A rewind of the FILLING sweep: its slot becomes FREE and its samples are dropped; whether a SWEEP_RESULT is sent,
SWEEP_REWOUND set and the counter raised is the cause's (R32). -/
def rewind (reason : SweepReason) (result notice counted : Bool) (s : State) : State :=
  match fillingSweep s with
  | none => s
  | some (i, w) =>
    let s := setSlot i .free s
    let s := if result then sendSweepResult w.tag .rewound w.row reason s else s
    let s := if notice then raise srcSweepRewound s else s
    if counted then count cntSweepsRewound s else s

/-- SUPERSEDED and CLOSED: result and counter, no notice (R32). -/
def rewindQuietly (reason : SweepReason) (s : State) : State := rewind reason true false true s

/-- SHORT, LONG, CHECK, HELD, and FLUSHED by INGEST_FLUSH: result, notice and counter (R32). -/
def rewindNoted (reason : SweepReason) (s : State) : State := rewind reason true true true s

/-- LINK: notice and counter, no result (R32, R46). -/
def rewindByLink (s : State) : State := rewind .link false true true s

/-- FLUSHED by service reset: a result alone (R32, R45). -/
def rewindByReset (s : State) : State := rewind .flushed true false false s

/-! ### SWEEP_OPEN (R24, R25) -/

/-- The first check of R24 that fails: its reason, and the row its SWEEP_RESULT carries. -/
def sweepOpenRefusal (s : State) (n direction row : Nat) : Option (SweepReason × Nat) :=
  if s.ingest.hold then some (.held, row)
  else if directionOf direction = none then some (.badValue, row)
  else match sheetAt s n with
    | none => some (.noSheet, row)
    | some x =>
      if x.state = .retiring then some (.noSheet, row)
      else match x.kind with
        | .letter _ => some (.wrongKind, row)
        | .relief r =>
          if x.state = .ready then some (.noSheet, row)
          else if row ≠ r.accepted ∨ x.geom.height ≤ row then some (.rowOrder, r.accepted)
          else if r.written + 2 ≤ r.accepted then some (.slotsFull, row)
          else if (fillingSweep s).isNone ∧ (freeSlot s).isNone then some (.slotsFull, row)
          else none

/-- A new sweep in its slot (R25). -/
def newSweep (tag : Tag) (n row : Nat) (d : Direction) : Sweep :=
  { tag := tag, sheet := n, row := row, direction := d, received := 0, long := false, check := crcInit,
    lastGood := none, samples := [] }

/-- The slot a taken open fills: that of the sweep it supersedes, else the free slot (R25). -/
def sweepTarget (s : State) : Option (Fin 2) :=
  match fillingSweep s with
  | some (i, _) => some i
  | none => freeSlot s

def takeSweepOpen (tag : Tag) (n direction row : Nat) (s : State) : State :=
  match sweepOpenRefusal s n direction row with
  | some (reason, r) => sendSweepResult tag .refused r reason s
  | none =>
    match (sweepTarget s), directionOf direction with
    | some i, some d => setSlot i (.filling (newSweep tag n row d)) (rewindQuietly .superseded s)
    | _, _ => s

/-- SWEEP_OPEN (R24). -/
def execSweepOpen (tag : Tag) (n direction row : Nat) (s : State) : Result :=
  takeRecord .t (takeSweepOpen tag n direction row) s

/-! ### SAMPLES (R26, R27, R28) -/

/-- A sample written into its slot at the column its direction gives (R26). -/
def placeSample (w : Sweep) (c : Code) : Sweep :=
  { w with
    received := w.received + 1
    samples := match w.direction with
      | .forward => w.samples ++ [c]
      | .backward => c :: w.samples }

/-- A count that saturates at 4,294,967,295 (R9). -/
def saturate (n : Nat) : Nat := min (n + 1) 4294967295

/-- The two dropout counts of a sheet (R9): void, held. -/
abbrev DropCounts := Nat × Nat

/-- One sample taken: into the check register, then discarded beyond W, or placed, with a dropout replaced as the
sheet's policy gives (R26, R27). -/
def takeSample (width : Nat) (policy : DropPolicy) (st : Sweep × DropCounts) (x : Code × Bool) : Sweep × DropCounts :=
  let (w, voids, helds) := st
  let w := { w with check := crcCode w.check x.1 }
  if width ≤ w.received then ({ w with long := true }, voids, helds)
  else if x.2 then
    match policy, w.lastGood with
    | .hold, some c => (placeSample w c, voids, saturate helds)
    | .hold, none => (placeSample w voidCode, saturate voids, helds)
    | .void, _ => (placeSample w voidCode, saturate voids, helds)
  else
    let c := if x.1 = voidCode then 65534 else x.1
    ({ placeSample w c with lastGood := some c }, voids, helds)

/-- A stray record: dropped and counted (R28). -/
def strayRecord (s : State) : State := s.setIngest { s.ingest with stray := s.ingest.stray + 1 }

def policyOfSheet (x : Sheet) : DropPolicy :=
  match x.kind with
  | .relief r => r.policy
  | .letter _ => .void

def takeSamples (xs : List (Code × Bool)) (s : State) : State :=
  match fillingSweep s with
  | none => strayRecord s
  | some (i, w) =>
    match sheetAt s w.sheet with
    | none => strayRecord s
    | some x =>
      let (w', voids, helds) := xs.foldl (takeSample x.geom.width (policyOfSheet x)) (w, x.voidCount, x.heldCount)
      setSheet w.sheet (some { x with voidCount := voids, heldCount := helds }) (setSlot i (.filling w') s)

/-- SAMPLES (R26). The sheet of a FILLING sweep is open, since a close rewinds the sweep (R17; log 19). -/
def execSamples (_tag : Tag) (xs : List (Code × Bool)) (s : State) : Result := takeRecord .t (takeSamples xs) s

/-! ### SWEEP_CLOSE (R30, R31) -/

/-- The judgement of a close: `none` is good (R30). -/
def judgeClose (width : Nat) (w : Sweep) (check : BitVec 16) : Option SweepReason :=
  if w.long then some .long
  else if w.received < width then some .short
  else if w.check ≠ check then some .check
  else none

/-- A good close: the slot is CLOSED, a sweep job is added, rows accepted rises, and the result is GOOD (R31). -/
def closeGood (i : Fin 2) (w : Sweep) (s : State) : State :=
  let s := setSlot i (.closed w) s
  let s := s.setDrain { s.drain with jobs := s.drain.jobs ++ [.sweep i w.sheet w.row 0] }
  let s := match sheetAt s w.sheet with
    | some x =>
      match x.kind with
      | .relief r => setSheet w.sheet (some { x with kind := .relief { r with accepted := r.accepted + 1 } }) s
      | .letter _ => s
    | none => s
  count cntSweepsGood (sendSweepResult w.tag .good w.row .none s)

def takeSweepClose (check : BitVec 16) (s : State) : State :=
  match fillingSweep s with
  | none => strayRecord s
  | some (i, w) =>
    match judgeClose (geometryOf s w.sheet).width w check with
    | some reason => rewindNoted reason s
    | none => closeGood i w s

/-- SWEEP_CLOSE (R30). -/
def execSweepClose (_tag : Tag) (check : BitVec 16) (s : State) : Result := takeRecord .t (takeSweepClose check) s

/-! ### INGEST_HOLD, INGEST_RELEASE, INGEST_FLUSH (R34, R35) -/

/-- INGEST_HOLD (R34). -/
def execIngestHold (tag : Tag) (s : State) : Result :=
  takeRequest ⟨tag, .ingestHold⟩ (fun s =>
    answerRequest ⟨tag, .ingestHold⟩ .done
      (rewindNoted .held (s.setIngest { s.ingest with hold := true }))) s

/-- INGEST_RELEASE (R34). -/
def execIngestRelease (tag : Tag) (s : State) : Result :=
  takeRequest ⟨tag, .ingestRelease⟩ (fun s =>
    answerRequest ⟨tag, .ingestRelease⟩ .done (s.setIngest { s.ingest with hold := false })) s

/-- A sweep job of which no entry has been made (R35). -/
def Job.unstartedSweep : Job → Bool
  | .sweep _ _ _ next => next = 0
  | _ => false

/-- The slot of a sweep job becomes FREE; a load job's buffer becomes FREE (R36). -/
def freeJobPlace (j : Job) (s : State) : State :=
  match j with
  | .sweep i _ _ _ => setSlot i .free s
  | .fill _ _ => s
  | .load b _ _ _ _ _ _ => s.setBuffers (s.buffers.set b none)

/-- Jobs leave the list and their places become FREE (R36). -/
def removeJobs (p : Job → Bool) (s : State) : State :=
  let gone := s.drain.jobs.filter p
  let s := s.setDrain { s.drain with jobs := s.drain.jobs.filter (fun j => !p j) }
  gone.foldl (fun s j => freeJobPlace j s) s

/-- The rows of a sheet still on their way: sweep jobs in the list and end-of-row entries in the queue (R35). -/
def rowsOnTheirWay (s : State) (n : Nat) : Nat :=
  (s.drain.jobs.filter (fun j => match j with
    | .sweep _ m _ _ => m = n
    | _ => false)).length
  + (s.drain.queue.filter (fun e => e.sheet = n ∧ e.endOfRow.isSome)).length

/-- Rows accepted of every SCANNING sheet set to rows written plus what `onTheWay` gives (R21, R35). -/
def lowerAccepted (onTheWay : Nat → Nat) (s : State) : State :=
  s.setSheets (s.sheets.mapFinIdx (fun n o _ =>
    match o with
    | some x =>
      match x.state, x.kind with
      | .scanning, .relief r => some { x with kind := .relief { r with accepted := r.written + onTheWay n } }
      | _, _ => some x
    | none => none))

/-- The flush at once (R35). -/
def flushIngest (s : State) : State :=
  let s := removeJobs Job.unstartedSweep (rewindNoted .flushed s)
  lowerAccepted (rowsOnTheirWay s) s

/-- INGEST_FLUSH (R35). -/
def execIngestFlush (tag : Tag) (s : State) : Result :=
  takeRequest ⟨tag, .ingestFlush⟩ (fun s => answerRequest ⟨tag, .ingestFlush⟩ .done (flushIngest s)) s

end Sys2Proof.Machine
end

