-- ==== Sys2Proof/Machine/Feeder.lean ====
section
/-! DEFINITION. The drain job list and the feeder (sections 2.7, 8.2, 8.3): the entry of a job's next word. -/

namespace Sys2Proof.Machine

open Sys2Proof

/-- The covered words of one row of a rectangle: from `column div 4` to `(column + w − 1) div 4` (R150). -/
def wordsPerRow (column width : Nat) : Nat := (column + width - 1) / 4 - column / 4 + 1

/-- The next word of a job: the count of entries made so far (R36). -/
def Job.next : Job → Nat
  | .sweep _ _ _ k => k
  | .fill _ k => k
  | .load _ _ _ _ _ _ k => k

/-- The number of entries a job makes in all (R38, R39, R150). -/
def jobLength (s : State) (j : Job) : Nat :=
  match j with
  | .sweep _ n _ _ => (geometryOf s n).width / 4
  | .fill n _ => extentOf (geometryOf s n) * 256
  | .load _ _ x _ w h _ => h * wordsPerRow x w

def Job.advance : Job → Job
  | .sweep i n y k => .sweep i n y (k + 1)
  | .fill n k => .fill n (k + 1)
  | .load b n x y w h k => .load b n x y w h (k + 1)

/-- The samples of a CLOSED or DRAINING slot, by column (R23). -/
def slotSamples (s : State) (i : Fin 2) : List Code :=
  match s.ingest.slots[i] with
  | .closed w => w.samples
  | .draining w => w.samples
  | .filling w => w.samples
  | .free => []

/-- Entry `k` of a sweep job of row `y` (R38). -/
def sweepEntry (s : State) (i : Fin 2) (n y k : Nat) : Entry :=
  let g := geometryOf s n
  let xs := slotSamples s i
  { sheet := n, tile := tileOf g (4 * k) y, word := wordOf (4 * k) y, lanes := allLanes,
    codes := wordOfLanes (fun l => xs.getD (4 * k + l) voidCode), kind := .sweep, merge := .none,
    endOfRow := if k + 1 = g.width / 4 then some y else none }

/-- Entry `k` of a fill job, in word order over the extent (R39). -/
def fillEntry (s : State) (n k : Nat) : Entry :=
  { sheet := n, tile := (geometryOf s n).base + k / 256, word := k % 256, lanes := allLanes, codes := 0, kind := .fill,
    merge := .none, endOfRow := none }

/-- Entry `k` of a load job: rows from the top, words in rising order within a row; a partial word needs a merge
(R150). -/
def loadEntry (s : State) (b : Fin 4) (n x y w k : Nat) : Entry :=
  let g := geometryOf s n
  let per := wordsPerRow x w
  let r := k / per
  let q := x / 4 + k % per
  let codes := (s.buffers[b]).getD []
  let inside (l : Nat) : Bool := x ≤ 4 * q + l && 4 * q + l < x + w
  let mask := laneMask inside
  { sheet := n, tile := tileOf g (4 * q) (y + r), word := wordOf (4 * q) (y + r), lanes := mask,
    codes := wordOfLanes (fun l => if inside l then codes.getD (r * w + (4 * q + l - x)) voidCode else 0),
    kind := .load, merge := if mask = allLanes then .none else .needed, endOfRow := none }

/-- The entry of a job's next word (R37). -/
def nextEntry (s : State) (j : Job) : Entry :=
  match j with
  | .sweep i n y k => sweepEntry s i n y k
  | .fill n k => fillEntry s n k
  | .load b n x y w _ k => loadEntry s b n x y w k

/-- A sweep job's slot goes from CLOSED to DRAINING at its first entry (R37). -/
def startDraining (j : Job) (s : State) : State :=
  match j with
  | .sweep i _ _ 0 =>
    match s.ingest.slots[i] with
    | .closed w => setSlot i (.draining w) s
    | _ => s
  | _ => s

/-- Whether the feeder makes an entry: the oldest job has words left and the queue holds fewer than 64 (R37). -/
def feederReady (s : State) : Bool :=
  match s.drain.jobs with
  | [] => false
  | j :: _ => j.next < jobLength s j && s.drain.queue.length < 64

/-- One entry made: it joins the queue; at its last entry the job leaves the list and its place becomes FREE (R37);
the base mode is judged (R109). -/
def makeEntry (s : State) : State :=
  match s.drain.jobs with
  | [] => s
  | j :: rest =>
    let e := nextEntry s j
    let last := j.next + 1 = jobLength s j
    let s := s.setDrain { jobs := if last then rest else j.advance :: rest, queue := s.drain.queue ++ [e] }
    let s := if last then freeJobPlace j s else startDraining j s
    judgeBaseMode s

/-- FEEDER_MAKE_ENTRY (R37); an entry into an empty queue of an idle port makes a choice (R105). -/
def execFeederMakeEntry (s : State) : Result :=
  takeEvent (feederReady s) .feederWaits (fun s => choose (makeEntry s)) s

end Sys2Proof.Machine
end

