-- ==== Sys2Proof/Machine/Sheets.lean ====
section
/-! DEFINITION. The sheet requests (chapter 1): SHEET_OPEN, SHEET_READY, SHEET_CLOSE, SHEET_STATUS. -/

namespace Sys2Proof.Machine

open Sys2Proof

/-! ### SHEET_OPEN (R10 to R13) -/

/-- The fields of a SHEET_OPEN (R164). -/
structure OpenFields where
  sheet : Nat
  kind : Nat
  width : Nat
  height : Nat
  pitch : Nat
  quantum : Nat
  base : Nat
  href : Nat
  policy : Nat
  floor : Nat
  deriving DecidableEq, Repr

def openGeometry (f : OpenFields) : Geometry :=
  { width := f.width, height := f.height, pitch := f.pitch, quantum := f.quantum, base := f.base }

/-- W or H: a multiple of 32 from 32 to 16,384 (R3). -/
def sideOk (n : Nat) : Bool := n % 32 = 0 && 32 ≤ n && n ≤ 16384

/-- The kind a SHEET_OPEN sets, where check 3 finds nothing wrong with its fields (R10). -/
def openKind (f : OpenFields) : Option SheetKind :=
  if sideOk f.width && sideOk f.height && 10 ≤ f.pitch && f.pitch ≤ 2000 && [1, 2, 5, 10, 20, 50].contains f.quantum then
    match f.kind with
    | 0 =>
      match policyOf f.policy with
      | some p =>
        if f.href ≤ 65534 * f.quantum then some (.relief { href := f.href, policy := p, accepted := 0, written := 0 })
        else none
      | none => none
    | 1 => if f.floor ≤ 2000000 then some (.letter f.floor) else none
    | _ => none
  else none

/-- Two extents overlap when each base tile is lower than the other's base tile plus its extent (R11). -/
def extentsOverlap (a b : Geometry) : Bool := a.base < b.base + extentOf b && b.base < a.base + extentOf a

/-- Whether a geometry overlaps the extent of a sheet that is not FREE (R10). -/
def overlapsAny (s : State) (g : Geometry) : Bool :=
  s.sheets.toList.any (fun o => match o with
    | some x => extentsOverlap g x.geom
    | none => false)

def Job.isFill : Job → Bool
  | .fill _ _ => true
  | _ => false

/-- A sheet as SHEET_OPEN makes it (R12, R13). -/
def openedSheet (f : OpenFields) (k : SheetKind) : Sheet :=
  { state := match k with
      | .relief _ => .scanning
      | .letter _ => .filling
    kind := k, geom := openGeometry f, voidCount := 0, heldCount := 0, readyWaiting := none, closeWaiting := none }

def SheetKind.isLetter : SheetKind → Bool
  | .letter _ => true
  | .relief _ => false

/-- The checks of R10 in order: the first that fails gives the reason; otherwise the sheet to open. -/
def checkOpen (s : State) (f : OpenFields) : Except Reason Sheet :=
  if 15 < f.sheet then .error .badValue
  else if (sheetAt s f.sheet).isSome then .error .wrongState
  else match openKind f with
    | none => .error .badValue
    | some k =>
      let g := openGeometry f
      if 131072 < g.base + extentOf g then .error .noRoom
      else if overlapsAny s g then .error .overlap
      else if k.isLetter && s.drain.jobs.any Job.isFill then .error .busy
      else .ok (openedSheet f k)

/-- The sheet opened; a LETTER sheet's fill job joins the job list (R12, R13). -/
def openSheet (n : Nat) (x : Sheet) (s : State) : State :=
  let s := setSheet n (some x) s
  if x.kind.isLetter then s.setDrain { s.drain with jobs := s.drain.jobs ++ [.fill n 0] } else s

def takeSheetOpen (q : Request) (f : OpenFields) (s : State) : State :=
  match checkOpen s f with
  | .error r => answerRequest q (.refused r) s
  | .ok x => answerRequest q .done (openSheet f.sheet x s)

/-- SHEET_OPEN (R10). -/
def execSheetOpen (tag : Tag) (sheet kind width height pitch quantum base href policy floor : Nat) (s : State) :
    Result :=
  let q : Request := ⟨tag, .sheetOpen sheet kind width height pitch quantum base href policy floor⟩
  takeRequest q (takeSheetOpen q ⟨sheet, kind, width, height, pitch, quantum, base, href, policy, floor⟩) s

/-! ### SHEET_READY (R16) -/

/-- SHEET_READY when it is taken: refused, answered DONE, or left waiting with its test made (R6, R16). -/
def takeSheetReady (q : Request) (n : Nat) (s : State) : State :=
  if 15 < n then answerRequest q (.refused .badValue) s
  else match sheetAt s n with
    | none => answerRequest q (.refused .noSheet) s
    | some x =>
      match x.state with
      | .retiring => answerRequest q (.refused .noSheet) s
      | .scanning => answerRequest q (.refused .wrongState) s
      | .ready => answerRequest q .done s
      | .filling | .loading =>
        if x.readyWaiting.isSome then answerRequest q (.refused .busy) s
        else testSheetReady n (setSheet n (some { x with readyWaiting := some q.tag }) s)

/-- SHEET_READY (R16). -/
def execSheetReady (tag : Tag) (n : Nat) (s : State) : Result :=
  takeRequest ⟨tag, .sheetReady n⟩ (takeSheetReady ⟨tag, .sheetReady n⟩ n) s

/-! ### SHEET_CLOSE (R17, R18) -/

/-- The entries of a sheet leave the queue, and the base mode is judged (R17, R109). -/
def removeEntries (n : Nat) (s : State) : State :=
  judgeBaseMode (s.setDrain { s.drain with queue := s.drain.queue.filter (fun e => e.sheet != n) })

/-- The FILLING sweep is rewound where it is for the sheet (R17, R32). -/
def rewindIfFor (n : Nat) (s : State) : State :=
  match fillingSweep s with
  | some (_, w) => if w.sheet = n then rewindQuietly .closed s else s
  | none => s

/-- The window read is abandoned where it is on the sheet (R17, R159). -/
def abandonWindowOn (n : Nat) (s : State) : State :=
  match s.window with
  | some w => if w.sheet = n then endWindowWith (.refused .noSheet) s else s
  | none => s

/-- A waiting SHEET_READY refused NO_SHEET (R17, R21). -/
def refuseReady (n : Nat) (s : State) : State :=
  match sheetAt s n with
  | some x =>
    match x.readyWaiting with
    | some tag =>
      reply tag (CellRequest.sheetReady n).kind (.refused .noSheet) .empty
        (setSheet n (some { x with readyWaiting := none }) s)
    | none => s
  | none => s

/-- What a close does to a sheet's outstanding work at once (R17). -/
def settleSheetWork (n : Nat) (s : State) : State :=
  let s := answerAndRemove (fun r => r.sheet == n) .heldNoSheet s
  let s := removeJobs (fun j => j.sheetOf == n) s
  let s := removeEntries n s
  let s := rewindIfFor n s
  let s := abandonWindowOn n s
  let s := refuseReady n s
  discardInFlight (fun o => o.sheet == some n) s

/-- The sheet is RETIRING with the close waiting while an operation for it is in flight, and FREE otherwise, with the
close answered DONE (R18). -/
def retireOrFree (q : Request) (n : Nat) (s : State) : State :=
  if inFlightFor s n then
    match sheetAt s n with
    | some x => setSheet n (some { x with state := .retiring, closeWaiting := some q.tag }) s
    | none => s
  else answerRequest q .done (setSheet n none s)

def takeSheetClose (q : Request) (n : Nat) (s : State) : State :=
  if 15 < n then answerRequest q (.refused .badValue) s
  else match sheetAt s n with
    | none => answerRequest q (.refused .noSheet) s
    | some x =>
      if x.state = .retiring then answerRequest q (.refused .wrongState) s
      else retireOrFree q n (settleSheetWork n s)

/-- SHEET_CLOSE (R17). -/
def execSheetClose (tag : Tag) (n : Nat) (s : State) : Result :=
  takeRequest ⟨tag, .sheetClose n⟩ (takeSheetClose ⟨tag, .sheetClose n⟩ n) s

/-! ### SHEET_STATUS (R19) -/

/-- The extent words for which fill entries have been made: the fill job's next word while it is in the list, else the
whole extent (R19). -/
def fillProgress (s : State) (n : Nat) (g : Geometry) : Nat :=
  match (jobsFor s n).find? Job.isFill with
  | some j => j.next
  | none => extentOf g * 256

def sheetReport (s : State) (n : Nat) (x : Sheet) : SheetReport :=
  { state := x.state, kind := x.kind, geom := x.geom, extent := extentOf x.geom,
    fillProgress := if x.kind.isLetter then some (fillProgress s n x.geom) else none,
    voidCount := x.voidCount, heldCount := x.heldCount,
    jobs := (jobsFor s n).length, entries := (entriesFor s n).length,
    queries := s.queries.records.countP (fun r => r.sheet == n),
    windowReading := match s.window with
      | some w => w.sheet = n
      | none => false
    readyWaiting := x.readyWaiting.isSome, closeWaiting := x.closeWaiting.isSome }

def takeSheetStatus (q : Request) (n : Nat) (s : State) : State :=
  if 15 < n then answerRequest q (.refused .badValue) s
  else answerWith q .done (.sheet ((sheetAt s n).map (sheetReport s n))) s

/-- SHEET_STATUS (R19). -/
def execSheetStatus (tag : Tag) (n : Nat) (s : State) : Result :=
  takeRequest ⟨tag, .sheetStatus n⟩ (takeSheetStatus ⟨tag, .sheetStatus n⟩ n) s

end Sys2Proof.Machine
end

