-- ==== Sys2Proof/Machine/Loader.lean ====
section
/-! DEFINITION. Block loads and window readback requests (chapter 8): LOAD_BLOCK, READ_WINDOW, WINDOW_CANCEL, and the
chunk sent in full. -/

namespace Sys2Proof.Machine

open Sys2Proof

/-! ### LOAD_BLOCK (R148, R149) -/

/-- The lowest-numbered FREE load buffer (R149). -/
def freeBuffer (s : State) : Option (Fin 4) :=
  [0, 1, 2, 3].find? (fun b : Fin 4 => (s.buffers[b]).isNone)

/-- The checks of R148 in order: the first that fails gives the reason; otherwise the buffer to take. -/
def checkLoad (s : State) (n x y w h count : Nat) : Except Reason (Fin 4) :=
  if 15 < n then .error .badValue
  else match sheetAt s n with
    | none => .error .wrongState
    | some sh =>
      if sh.state ≠ .filling ∧ sh.state ≠ .loading then .error .wrongState
      else if w = 0 ∨ h = 0 ∨ 1024 < w * h ∨ count ≠ w * h ∨ sh.geom.width < x + w ∨ sh.geom.height < y + h then
        .error .badValue
      else match freeBuffer s with
        | none => .error .busy
        | some b => .ok b

def takeLoadBlock (q : Request) (n x y w h : Nat) (codes : List Code) (s : State) : State :=
  match checkLoad s n x y w h codes.length with
  | .error r => answerRequest q (.refused r) s
  | .ok b =>
    let s := s.setBuffers (s.buffers.set b (some codes))
    answerRequest q .accepted (s.setDrain { s.drain with jobs := s.drain.jobs ++ [.load b n x y w h 0] })

/-- LOAD_BLOCK (R148). -/
def execLoadBlock (tag : Tag) (n x y w h : Nat) (codes : List Code) (s : State) : Result :=
  let q : Request := ⟨tag, .loadBlock n x y w h codes⟩
  takeRequest q (takeLoadBlock q n x y w h codes) s

/-! ### READ_WINDOW (R153, R154) -/

/-- The checks of R153 in order. -/
def checkWindow (s : State) (n x y w h : Nat) : Option Reason :=
  if 15 < n then some .badValue
  else if s.window.isSome then some .busy
  else match sheetAt s n with
    | none => some .wrongState
    | some sh =>
      if sh.state ≠ .scanning ∧ sh.state ≠ .ready then some .wrongState
      else if w = 0 ∨ h = 0 ∨ 65536 < w * h ∨ sh.geom.width < x + w ∨ sh.geom.height < y + h then some .badValue
      else none

/-- A window read as it starts, before its first row is taken up (R153). -/
def newWindow (tag : Tag) (n x y w h : Nat) : WindowRead :=
  { tag := tag, sheet := n, column := x, row := y, width := w, height := h, cursor := none, voids := 0, placed := 0,
    chunk := [], cap := 0, hold := 0, nextIndex := 0, waiting := 0 }

/-- The window starts, its first row is taken up, and what can be placed at once is placed (R154, R155). -/
def startWindow (tag : Tag) (n x y w h : Nat) (s : State) : State :=
  settleVoids (s.setWindow (some (takeUpRows (rowReadable s n) h y (newWindow tag n x y w h))))

def takeReadWindow (q : Request) (n x y w h : Nat) (s : State) : State :=
  match checkWindow s n x y w h with
  | some r => answerRequest q (.refused r) s
  | none => choose (startWindow q.tag n x y w h s)

/-- READ_WINDOW (R153). -/
def execReadWindow (tag : Tag) (n x y w h : Nat) (s : State) : Result :=
  let q : Request := ⟨tag, .readWindow n x y w h⟩
  takeRequest q (takeReadWindow q n x y w h) s

/-! ### WINDOW_CANCEL (R158) -/

def takeWindowCancel (q : Request) (s : State) : State :=
  if s.window.isSome then answerRequest q .done (endWindowWith .cancelled s)
  else answerRequest q (.refused .wrongState) s

/-- WINDOW_CANCEL (R158). -/
def execWindowCancel (tag : Tag) (s : State) : Result :=
  takeRequest ⟨tag, .windowCancel⟩ (takeWindowCancel ⟨tag, .windowCancel⟩) s

/-! ### WINDOW_CHUNK_SENT (R154, R155) -/

/-- The oldest chunk on Port C has gone; it is the current window's where no older window's chunk stood before it, so
that at most the chunks left on the port wait for this window. -/
def chunkGone (s : State) : State :=
  let l := linkOf s .c
  let left := afterFirstChunk l.toSend
  let s := setLink .c { l with toSend := left } s
  match s.window with
  | none => s
  | some w => s.setWindow (some { w with waiting := min w.waiting (left.countP OutRecord.isChunk) })

/-- WINDOW_CHUNK_SENT (R154): placing and offering go on, and a word offered to an idle port makes a choice (R105). -/
def execWindowChunkSent (s : State) : Result :=
  takeEvent ((linkOf s .c).toSend.any OutRecord.isChunk) .noChunkWaiting (fun s => choose (settleVoids (chunkGone s))) s

end Sys2Proof.Machine
end

