-- ==== Sys2Proof/Machine/MemoryPort.lean ====
section
/-! DEFINITION. The memory port controller (chapter 7): completions of the five operations, the word check, the start-up
sequence, the refresh interval and the row close timers. -/

namespace Sys2Proof.Machine

open Sys2Proof

/-! ### What completions share -/

/-- The operation for a RETIRING sheet has completed: the sheet becomes FREE and the close is answered DONE (R18). -/
def retireAfter (o : InFlight) (s : State) : State :=
  match o.sheet with
  | none => s
  | some n =>
    match sheetAt s n with
    | none => s
    | some x =>
      if x.state = .retiring then
        let s := setSheet n none s
        match x.closeWaiting with
        | some tag => reply tag (CellRequest.sheetClose n).kind .done .empty s
        | none => s
      else s

/-- The end of every completion: the sheet it was for, the banks that ROW_CLOSE_TIME 0 left with no timer judged (R136), and
the choice (R105). -/
def afterCompletion (o : InFlight) (s : State) : State := choose (judgeBanks (retireAfter o s))

/-- The bank of a completed access: its timer starts again, or, after a service reset, it is marked close-wanted with its
timer stopped (R132, R144). -/
def settleBank (o : InFlight) (b : Fin 8) (s : State) : State :=
  if o.afterReset then setBank b { s.port.banks[b] with timer := none, closeWanted := true } s else startTimer b s

/-- A completion of the operation in flight, where it is of the kind that `k` takes; the port is then free (R130). -/
def completing (s : State) (k : InFlight → Option Result) : Result :=
  whileRunning s <|
    match s.port.inFlight with
    | none => .fault .operationNotInFlight
    | some o => (k o).getD (.fault .operationNotInFlight)

/-! ### OPEN, CLOSE and REFRESH (R131, R133) -/

/-- The bank is OPEN on its row with its timer started; after a service reset it is marked (R131, R144). -/
def completeOpen (o : InFlight) (b : Fin 8) (row : Nat) (s : State) : State :=
  let s := setBank b { row := some row, timer := none, closeWanted := false, accessed := false } (setInFlight none s)
  afterCompletion o (settleBank o b s)

/-- OPEN_COMPLETE (R131). -/
def execOpenComplete (s : State) : Result :=
  completing s (fun o => match o.op with
    | .openRow b row => some (.next (completeOpen o b row s))
    | _ => none)

/-- The bank is CLOSED (R131). -/
def completeClose (o : InFlight) (b : Fin 8) (s : State) : State :=
  afterCompletion o
    (setBank b { row := none, timer := none, closeWanted := false, accessed := false } (setInFlight none s))

/-- CLOSE_COMPLETE (R131). -/
def execCloseComplete (s : State) : Result :=
  completing s (fun o => match o.op with
    | .closeRow b => some (.next (completeClose o b s))
    | _ => none)

/-- Refresh owed falls by one (R133). -/
def completeRefresh (o : InFlight) (s : State) : State :=
  let s := setInFlight none s
  afterCompletion o (s.setPort { s.port with owed := s.port.owed - 1 })

/-- REFRESH_COMPLETE (R133). -/
def execRefreshComplete (s : State) : Result :=
  completing s (fun o => match o.op with
    | .refresh => some (.next (completeRefresh o s))
    | _ => none)

/-! ### READ (R132, R141, R142) -/

/-- The counting and the notice of a finding (R141). -/
def noteFinding (f : Finding) (s : State) : State :=
  match f with
  | .clean => s
  | .corrected => count cntCorrected s
  | .uncorrectable => raise srcMemoryFault (count cntUncorrectable s)

/-- A merge READ's word fills the absent lanes of the head entry; an uncorrectable word fills them with VOID (R42). -/
def fillMerge (word : CellWord) (uncorrectable : Bool) (s : State) : State :=
  match s.drain.queue with
  | [] => s
  | e :: rest =>
    let e' := { e with codes := mergeLanes e.lanes e.codes (if uncorrectable then voidWord else word), merge := .merged }
    s.setDrain { s.drain with queue := e' :: rest }

/-- The word handed to the owner of its READ (R132, R142). -/
def handWord (owner : ReadOwner) (word : CellWord) (uncorrectable : Bool) (s : State) : State :=
  match owner with
  | .fetch seq index => deliverFetch seq index word uncorrectable s
  | .merge => fillMerge word uncorrectable s
  | .window _ k => placeWord k word uncorrectable s

/-- A READ's completion: the word is examined whether or not its owner is there, and handed to an owner that still
exists (R132, R141, R144). -/
def completeRead (o : InFlight) (tile word : Nat) (owner : ReadOwner) (upset : StoredBits) (s : State) : State :=
  let a := wordAddress tile word
  let s := (setInFlight none s).setMem (upsetWord a upset s.mem)
  let f := findingOf s.mem s.powerOns a
  let data := readWord s.mem s.powerOns a
  let s := settleBank o (bankOf tile) (noteFinding f s)
  let s := if o.discard then s else handWord owner data (f == .uncorrectable) s
  afterCompletion o s

/-- READ_COMPLETE (R132). -/
def execReadComplete (upset : StoredBits) (s : State) : Result :=
  completing s (fun o => match o.op with
    | .read tile word owner =>
      some (if tileCount ≤ tile then .fault .noSuchWord else .next (completeRead o tile word owner upset s))
    | _ => none)

/-! ### WRITE (R43, R132) -/

/-- Rows written rises by one; at H a SCANNING sheet becomes READY and SHEET_COMPLETE is set (R14, R43). -/
def raiseWritten (n : Nat) (s : State) : State :=
  match sheetAt s n with
  | none => s
  | some x =>
    match x.kind with
    | .letter _ => s
    | .relief r =>
      let x' := { x with kind := .relief { r with written := r.written + 1 } }
      if x.state = .scanning ∧ r.written + 1 = x.geom.height then
        raise srcSheetComplete (setSheet n (some { x' with state := .ready }) s)
      else setSheet n (some x') s

/-- The write of a sheet's last fill entry moves it from FILLING to LOADING (R15, R43). -/
def endFill (e : Entry) (s : State) : State :=
  match sheetAt s e.sheet with
  | none => s
  | some x =>
    if e.kind = .fill ∧ x.state = .filling ∧ e.tile + 1 = x.geom.base + extentOf x.geom ∧ e.word = 255 then
      setSheet e.sheet (some { x with state := .loading }) s
    else s

/-- The effects of the head entry's WRITE (R43). -/
def retireHead (s : State) : State :=
  match s.drain.queue with
  | [] => s
  | e :: rest =>
    let s := judgeBaseMode (count cntDrainWritten (s.setDrain { s.drain with queue := rest }))
    let s := if e.endOfRow.isSome then raiseWritten e.sheet s else s
    testSheetReady e.sheet (endFill e s)

/-- A WRITE's completion: the word is stored; the owner's effects follow unless it has left (R43, R132, R144). -/
def completeWrite (o : InFlight) (tile word : Nat) (codes : CellWord) (s : State) : State :=
  let s := (setInFlight none s).setMem (storeWord (wordAddress tile word) codes s.mem)
  let s := settleBank o (bankOf tile) s
  afterCompletion o (if o.discard then s else retireHead s)

/-- WRITE_COMPLETE (R43). -/
def execWriteComplete (s : State) : Result :=
  completing s (fun o => match o.op with
    | .write tile word codes =>
      some (if tileCount ≤ tile then .fault .noSuchWord else .next (completeWrite o tile word codes s))
    | _ => none)

/-! ### Start-up, refresh interval and row close timers (R129, R135, R137, R138) -/

/-- The interval that starts takes the setting as it stands (R137, R139). -/
def startInterval (s : State) : State := s.setPort { s.port with refreshLeft := some s.settings.refreshInterval }

/-- The memory state becomes RUN: the first refresh interval begins and the first choice is made (R129, R137). -/
def beginRun (s : State) : State := choose (startInterval (s.setPort { s.port with state := .run }))

/-- INITIALISATION_COMPLETE (R129). -/
def execInitialisationComplete (s : State) : Result :=
  takeEvent (s.port.state == .init) .startUpNotUnderWay beginRun s

/-- Whether the refresh interval has expired. -/
def refreshExpired (s : State) : Bool := s.port.refreshLeft == some 0

/-- An expiry: refresh owed rises, or at 8 an overrun is counted and MEMORY_FAULT set; the next interval starts, and a
choice is made where the port is idle (R105, R137, R138). -/
def takeRefreshExpiry (s : State) : State :=
  let s := startInterval s
  choose (if s.port.owed < 8 then s.setPort { s.port with owed := s.port.owed + 1 }
    else raise srcMemoryFault (count cntRefreshOverruns s))

/-- REFRESH_INTERVAL_EXPIRY (R137). -/
def execRefreshIntervalExpiry (s : State) : Result := takeEvent (refreshExpired s) .eventNotDue takeRefreshExpiry s

/-- Whether a bank's row close timer has expired. -/
def timerExpired (s : State) (b : Fin 8) : Bool := s.port.banks[b].timer == some 0

/-- An expiry judged: the timer starts again where a candidate names the bank's open row; otherwise the bank is marked,
and a choice is made where the port is idle (R105, R135). -/
def takeTimerExpiry (b : Fin 8) (s : State) : State :=
  let k := s.port.banks[b]
  match k.row with
  | none => setBank b { k with timer := none } s
  | some row =>
    if rowWanted s b row then judgeRow b row s else choose (judgeRow b row s)

/-- ROW_CLOSE_TIMER_EXPIRY (R135). -/
def execRowCloseTimerExpiry (b : Fin 8) (s : State) : Result :=
  takeEvent (timerExpired s b) .eventNotDue (takeTimerExpiry b) s

end Sys2Proof.Machine
end

