-- ==== Sys2Proof/Machine/Spindles.lean ====
section
/-! DEFINITION. Spindle contexts (chapter 4): release, touch-off, retract, resume, and what a mark does to a context. -/

namespace Sys2Proof.Machine

open Sys2Proof

/-- A context changed for each spindle of a list. -/
def mapSpindles (f : Context → Context) (ns : List (Fin 6)) (s : State) : State :=
  ns.foldl (fun s n => setSpindle n (f s.spindles[n]) s) s

/-! ### SPINDLE_RELEASE (R66, R67) -/

def setRelease (r : ReleaseCondition) (c : Context) : Context := { c with release := r, alarmFired := false }

def takeSpindleRelease (q : Request) (bits : BitVec 8) (code : Nat) (s : State) : State :=
  match spindlesOf bits, conditionOf code with
  | some ns, some r => answerRequest q .done (mapSpindles (setRelease r) ns s)
  | _, _ => answerRequest q (.refused .badValue) s

/-- SPINDLE_RELEASE (R66). -/
def execSpindleRelease (tag : Tag) (bits : BitVec 8) (code : Nat) (s : State) : Result :=
  let q : Request := ⟨tag, .spindleRelease bits code⟩
  takeRequest q (takeSpindleRelease q bits code) s

/-- The release condition that waits on an alarm unit. -/
def afterAlarm (unit : Fin 2) : ReleaseCondition := if unit = 0 then .afterAlarm0 else .afterAlarm1

/-- A firing sets the flag of a context whose condition names the unit (R67). -/
def noteFiring (unit : Fin 2) (c : Context) : Context :=
  if c.release = afterAlarm unit then { c with alarmFired := true } else c

/-! ### The frame mark (R68) -/

/-- BOUND or UNBOUND as the active SHEET gives (R62). -/
def followSheet (p : Params) : SpindleState := if p.sheet.isSome then .bound else .unbound

/-- Whether a release falls due at a mark (R68). -/
def releaseDue (c : Context) : Bool :=
  match c.release with
  | .none => false
  | .nextMark => true
  | .afterAlarm0 => c.alarmFired
  | .afterAlarm1 => c.alarmFired

/-- Step 1 of the mark: the staged set becomes active (R68). -/
def releaseAtMark (c : Context) : Context :=
  if releaseDue c then
    { c with active := c.staged, release := .none, alarmFired := false,
             state := if c.state = .retracted then .retracted else followSheet c.staged }
  else c

/-- Step 2: a pending correction becomes c (R68). -/
def correctAtMark (c : Context) : Context :=
  match c.pendingCorrection with
  | some x => { c with correction := x, pendingCorrection := none }
  | none => c

/-- Step 3: a resumed spindle leaves RETRACTED (R68). -/
def resumeAtMark (c : Context) : Context :=
  if c.resumePending then { c with resumePending := false, state := followSheet c.active } else c

def contextAtMark (c : Context) : Context := resumeAtMark (correctAtMark (releaseAtMark c))

/-! ### TOUCH_OFF (R70, R71) -/

/-- The measured correction: nominal length less measured length (R70). -/
def measuredCorrection (c : Context) (length : Nat) : Int := (c.active.toolNominal : Int) - length

def takeTouchOff (n : Fin 6) (tag : Tag) (length : Nat) (s : State) : State :=
  let c := s.spindles[n]
  let x := measuredCorrection c length
  if x.natAbs ≤ c.active.touchLimit then
    send (.s n) (.touchResult tag true x) (setSpindle n { c with pendingCorrection := some x } s)
  else raise srcToolRange (send (.s n) (.touchResult tag false x) s)

/-- TOUCH_OFF (R70). -/
def execTouchOff (n : Fin 6) (tag : Tag) (length : Nat) (s : State) : Result :=
  takeRecord (.s n) (takeTouchOff n tag length) s

/-! ### SPINDLE_RETRACT and SPINDLE_RESUME (R73, R74) -/

/-- A context withdrawn from the stone (R73, R75). -/
def retractContext (c : Context) : Context := { c with held := 0, state := .retracted, resumePending := false }

/-- One spindle retracted: its queries are answered RETRACT, oldest first, and then it is withdrawn (R73, R97). -/
def retractSpindle (n : Fin 6) (s : State) : State :=
  let s := answerAndRemove (fun r => r.spindle == n) .retract s
  setSpindle n (retractContext s.spindles[n]) s

def takeSpindleRetract (q : Request) (bits : BitVec 8) (s : State) : State :=
  match spindlesOf bits with
  | some ns => answerRequest q .done (ns.foldl (fun s n => retractSpindle n s) s)
  | none => answerRequest q (.refused .badValue) s

/-- SPINDLE_RETRACT (R73). -/
def execSpindleRetract (tag : Tag) (bits : BitVec 8) (s : State) : Result :=
  takeRequest ⟨tag, .spindleRetract bits⟩ (takeSpindleRetract ⟨tag, .spindleRetract bits⟩ bits) s

def resumeContext (c : Context) : Context := if c.state = .retracted then { c with resumePending := true } else c

def takeSpindleResume (q : Request) (bits : BitVec 8) (s : State) : State :=
  match spindlesOf bits with
  | some ns => answerRequest q .done (mapSpindles resumeContext ns s)
  | none => answerRequest q (.refused .badValue) s

/-- SPINDLE_RESUME (R74). -/
def execSpindleResume (tag : Tag) (bits : BitVec 8) (s : State) : Result :=
  takeRequest ⟨tag, .spindleResume bits⟩ (takeSpindleResume ⟨tag, .spindleResume bits⟩ bits) s

/-- A context at service reset (R78). -/
def contextAtServiceReset (c : Context) : Context :=
  { c with state := .retracted, held := 0, release := .none, alarmFired := false, resumePending := false }

end Sys2Proof.Machine
end

