-- ==== Sys2Proof/Machine/TimeBase.lean ====
section
/-! DEFINITION. The time base (chapter 3): ticks, the frame mark with the blocks that act on it, the urgency point, alarm
firings, TIME_SET and ALARM_SET. -/

namespace Sys2Proof.Machine

open Sys2Proof

/-! ### The events of the time base, as the blocks take them -/

/-- The time base's own part of a mark: frame number, P, U, and the urgency-passed flag; an urgency point that falls with
the mark is raised (R48, R49, R52; log 3). -/
def timeAtMark (st : Settings) (t : TimeBase) : TimeBase :=
  let u := min st.urgentWindow st.framePeriod
  { t with frame := t.frame + 1, period := st.framePeriod, window := u, urgencyPassed := false, markDue := false,
           urgencyDue := u = st.framePeriod }

/-- FRAME_MARK sent on every spindle port that is UP (R51). -/
def sendMarks (s : State) : State :=
  allSpindles.foldl (fun s n => send (.s n) (.frameMark s.time.frame s.time.machineTime) s) s

/-- The window age at a mark, and the flag cleared for the new frame (R121). -/
def ageAtMark (c : Scheduler) : Scheduler :=
  { c with windowAge := if c.windowIssued then 0 else min (c.windowAge + 1) 255, windowIssued := false }

/-- The notice interval at a mark: at NOTICE_INTERVAL the count returns to 0 and the unit judges whether to send
(R176). -/
def noticeAtMark (s : State) : State :=
  let n := s.notices.interval + 1
  if s.settings.noticeInterval ≤ n then
    let s := s.setNotices { s.notices with interval := 0 }
    if s.notices.pending &&& s.settings.noticeEnables ≠ 0 ∨ s.settings.alwaysSend then makeNotice s else s
  else s.setNotices { s.notices with interval := n }

/-- The frame mark: the time base, then the blocks in the order of R50's table (R49, R50; log 9). -/
def takeMark (s : State) : State :=
  let s := sendMarks (s.setTime (timeAtMark s.settings s.time))
  let s := lateAtMark s
  let s := mapSpindles contextAtMark allSpindles s
  let s := s.setSched (ageAtMark s.sched)
  let s := noticeAtMark (holdChunkAtMark s)
  countBy cntOccupancy (occupancyAtMark s) s

/-- The urgency point: the flag is set, the records due at the next mark become urgent, and the deadline flag is judged
(R52, R100, R111). -/
def takeUrgency (s : State) : State :=
  judgeDeadline (markUrgent (s.setTime { s.time with urgencyPassed := true, urgencyDue := false }))

/-- An alarm unit fires: its notice source, and the alarm-fired flags of the spindles that wait on it (R57, R67). -/
def fireAlarm (unit : Fin 2) (s : State) : State := mapSpindles (noteFiring unit) allSpindles (raise (srcAlarm unit) s)

/-- A firing that a tick has raised is taken (R55, R57). -/
def takeAlarm (unit : Fin 2) (s : State) : State :=
  fireAlarm unit (s.setTime { s.time with alarmDue := s.time.alarmDue.set unit false })

/-- FRAME_MARK (R49). -/
def execFrameMark (s : State) : Result := takeEvent s.time.markDue .eventNotDue takeMark s

/-- URGENCY_POINT (R52). -/
def execUrgencyPoint (s : State) : Result := takeEvent s.time.urgencyDue .eventNotDue takeUrgency s

/-- ALARM_FIRE (R55, R57). -/
def execAlarmFire (unit : Fin 2) (s : State) : Result :=
  takeEvent s.time.alarmDue[unit] .eventNotDue (takeAlarm unit) s

/-! ### TICK (R47, R49, R54, R55) -/

def takeIf (due : Bool) (act : State → State) (s : State) : State := if due then act s else s

/-- The events of the last tick that have not been taken yet, taken before machine time changes again (log 2). -/
def takeOutstanding (s : State) : State :=
  let s := takeIf s.time.alarmDue[(0 : Fin 2)] (takeAlarm 0) s
  let s := takeIf s.time.alarmDue[(1 : Fin 2)] (takeAlarm 1) s
  let s := takeIf s.time.markDue takeMark s
  let s := takeIf s.time.urgencyDue takeUrgency s
  let s := takeIf (refreshExpired s) takeRefreshExpiry s
  allBanks.foldl (fun s b => takeIf (timerExpired s b) (takeTimerExpiry b) s) s

/-- Whether a unit fires at a tick to a machine time: enabled, matching, and not matching before (R55). -/
def firesAtTick (t : MachineTime) (u : AlarmUnit) : Bool := u.enabled && alarmMatches u t && !u.matching

/-- The time base at a tick: machine time, the frame tick count, the mark or the urgency point that the count reaches,
and the alarm units judged (R47, R49, R52, R55). -/
def tickTime (t : TimeBase) : TimeBase :=
  let now := t.machineTime + 1
  let last : Bool := t.period ≤ t.ticks + 1
  { t with
    machineTime := now
    ticks := if last then 0 else t.ticks + 1
    markDue := last
    urgencyDue := !last && t.ticks + 1 == t.period - t.window
    alarms := t.alarms.map (judgeAlarm now)
    alarmDue := t.alarms.map (firesAtTick now) }

/-- A running count falls by one (R134, R137). -/
def countDown : Option Nat → Option Nat
  | none => none
  | some k => some (k - 1)

/-- The row close timers and the refresh interval at a tick (R134, R137). -/
def tickPort (p : MemoryPort) : MemoryPort :=
  { p with banks := p.banks.map (fun b => { b with timer := countDown b.timer }), refreshLeft := countDown p.refreshLeft }

def takeTick (s : State) : State :=
  let s := takeOutstanding s
  (s.setTime (tickTime s.time)).setPort (tickPort s.port)

/-- TICK (R47). -/
def execTick (s : State) : Result := whileRunning s (.next (takeTick s))

/-! ### TIME_SET (R53, R56) -/

/-- Whether a unit fires at a load: enabled and matching, whatever its match state before (R56). -/
def firesAtLoad (t : MachineTime) (u : AlarmUnit) : Bool := u.enabled && alarmMatches u t

/-- The time base's own part of a load; an urgency point that falls at once is raised (R53, R56; log 3). -/
def loadTime (v : MachineTime) (t : TimeBase) : TimeBase :=
  { t with machineTime := v, ticks := 0, urgencyPassed := false, urgencyDue := t.window == t.period,
           alarms := t.alarms.map (judgeAlarm v) }

/-- The load: each alarm unit judges its match, and a unit that fires, fires at the load (R53, R56, R57). -/
def takeLoad (v : MachineTime) (s : State) : State :=
  let fires := s.time.alarms.map (firesAtLoad v)
  let s := s.setTime (loadTime v s.time)
  takeIf fires[(1 : Fin 2)] (fireAlarm 1) (takeIf fires[(0 : Fin 2)] (fireAlarm 0) s)

/-- TIME_SET when it is taken; the events of the last tick come before the load (log 2). -/
def takeTimeSet (q : Request) (v : MachineTime) (s : State) : State :=
  answerRequest q .done (takeLoad v (takeOutstanding s))

/-- TIME_SET (R53). -/
def execTimeSet (tag : Tag) (v : MachineTime) (s : State) : Result :=
  takeRequest ⟨tag, .timeSet v⟩ (takeTimeSet ⟨tag, .timeSet v⟩ v) s

/-! ### ALARM_SET (R58) -/

/-- A unit with its new fields and its match state judged against the machine time at hand (R58). -/
def newAlarm (t : MachineTime) (compare mask : MachineTime) (enabled : Bool) : AlarmUnit :=
  judgeAlarm t { compare := compare, mask := mask, enabled := enabled, matching := false }

/-- ALARM_SET when it is taken. It never fires the unit and withdraws nothing: a firing that a TICK has raised under the old
fields and that has not been taken yet stays raised, and is taken after the ALARM_SET, also where the new enable is OFF (the
model's; DESIGN CHOICE, log 27). -/
def takeAlarmSet (q : Request) (unit : Nat) (compare mask : MachineTime) (enable : Nat) (s : State) : State :=
  match enableOf enable with
  | some e =>
    if h : unit < 2 then
      answerRequest q .done (s.setTime { s.time with
        alarms := s.time.alarms.set unit (newAlarm s.time.machineTime compare mask e) h })
    else answerRequest q (.refused .badValue) s
  | none => answerRequest q (.refused .badValue) s

/-- ALARM_SET (R58). -/
def execAlarmSet (tag : Tag) (unit : Nat) (compare mask : MachineTime) (enable : Nat) (s : State) : Result :=
  let q : Request := ⟨tag, .alarmSet unit compare mask enable⟩
  takeRequest q (takeAlarmSet q unit compare mask enable) s

end Sys2Proof.Machine
end

