-- ==== Sys2Proof/Machine/Links.lean ====
section
/-! DEFINITION. Station links and the arrival of cell requests (sections 9.1 to 9.3): symbols, loss of carrier, bad
records, link up and link down. -/

namespace Sys2Proof.Machine

open Sys2Proof

/-! ### Link down (R161) -/

/-- Port C DOWN: the request queue is emptied, waiting SHEET_READYs are withdrawn, and the window read is abandoned
(R22, R159, R173). -/
def cellPortDown (s : State) : State :=
  let s := (dropWindow s).setCellQueue []
  s.setSheets (s.sheets.map (fun o => o.map (fun x => { x with readyWaiting := none })))

/-- Port Sn DOWN: its queries are withdrawn and its spindle is RETRACTED with held depth 0 (R75, R103). -/
def spindlePortDown (n : Fin 6) (s : State) : State :=
  let s := withdrawQueries (fun r => r.spindle == n) s
  setSpindle n (retractContext s.spindles[n]) s

/-- What the owners of a port's state do when it goes DOWN (R161). -/
def ownersOnDown (p : Port) (s : State) : State :=
  match p with
  | .c => cellPortDown s
  | .t => rewindByLink s
  | .s n => spindlePortDown n s

/-- An UP port goes DOWN: both counts 0, nothing left to send, LINK_CHANGE set, and its owners act (R160, R161). -/
def linkDown (p : Port) (s : State) : State :=
  ownersOnDown p (raise srcLinkChange (setLink p { up := false, idle := 0, bad := 0, toSend := [] } s))

/-! ### Symbols (R160, R161) -/

/-- A good idle symbol: on a DOWN port the idle count rises, and at 64 the port goes UP (R160). -/
def takeIdle (p : Port) (s : State) : State :=
  let l := linkOf s p
  if l.up then s
  else if 64 ≤ l.idle + 1 then raise srcLinkChange (setLink p { l with up := true, idle := 0, bad := 0 } s)
  else setLink p { l with idle := l.idle + 1 } s

/-- IDLE_SYMBOL (R160). -/
def execIdleSymbol (p : Port) (s : State) : Result := whileRunning s (.next (takeIdle p s))

/-- Any other symbol: on a DOWN port the idle count returns to 0 (R160; log 16). -/
def takeOther (p : Port) (s : State) : State :=
  let l := linkOf s p
  if l.up then s else setLink p { l with idle := 0 } s

/-- OTHER_SYMBOL (R160). -/
def execOtherSymbol (p : Port) (s : State) : Result := whileRunning s (.next (takeOther p s))

/-- Loss of carrier: an UP port goes DOWN at once; on a DOWN port the idle count returns to 0 (R160, R161). -/
def takeLoss (p : Port) (s : State) : State :=
  let l := linkOf s p
  if l.up then linkDown p s else setLink p { l with idle := 0 } s

/-- LOSS_OF_CARRIER (R161). -/
def execLossOfCarrier (p : Port) (s : State) : Result := whileRunning s (.next (takeLoss p s))

/-! ### Bad records (R165) -/

/-- A bad record on an UP port: dropped, counted and notified; at a bad count of 8 the port goes DOWN. On a DOWN port
nothing is judged (R160, R165). -/
def takeBad (p : Port) (s : State) : State :=
  let l := linkOf s p
  if l.up then
    let s := raise srcCheckError (count (cntCheckErrors p) (setLink p { l with bad := l.bad + 1 } s))
    if 8 ≤ l.bad + 1 then linkDown p s else s
  else setLink p { l with idle := 0 } s

/-- BAD_RECORD (R165). -/
def execBadRecord (p : Port) (bytes : List Byte) (s : State) : Result :=
  takeEvent (decodeRecord p bytes).isNone .recordIsGood (takeBad p) s

/-! ### CELL_REQUEST_ARRIVES (R167) -/

/-- A good request joins the queue, or is answered BUSY where the queue holds four (R167). -/
def takeArrival (q : Request) (s : State) : State :=
  if 4 ≤ s.cellQueue.length then answerRequest q (.refused .busy) s else s.setCellQueue (s.cellQueue ++ [q])

/-- CELL_REQUEST_ARRIVES (R167). -/
def execCellRequestArrives (tag : Tag) (r : CellRequest) (s : State) : Result := takeRecord .c (takeArrival ⟨tag, r⟩) s

end Sys2Proof.Machine
end

