-- ==== Sys2Proof/Machine/Notices.lean ====
section
/-! DEFINITION. Requests to the notice unit and the service monitor (chapter 10). -/

namespace Sys2Proof.Machine

open Sys2Proof

def takeNoticeAck (q : Request) (bits : BitVec 16) (s : State) : State :=
  match sourcesOf bits with
  | some x => answerRequest q .done (s.setNotices { s.notices with pending := s.notices.pending &&& ~~~x })
  | none => answerRequest q (.refused .badValue) s

/-- NOTICE_ACK (R178). -/
def execNoticeAck (tag : Tag) (bits : BitVec 16) (s : State) : Result :=
  takeRequest ⟨tag, .noticeAck bits⟩ (takeNoticeAck ⟨tag, .noticeAck bits⟩ bits) s

/-- COUNTERS_READ (R180). -/
def execCountersRead (tag : Tag) (s : State) : Result :=
  takeRequest ⟨tag, .countersRead⟩
    (fun s => answerWith ⟨tag, .countersRead⟩ .done (.counters s.counters.toList) s) s

/-- COUNTERS_CLEAR (R180). -/
def execCountersClear (tag : Tag) (s : State) : Result :=
  takeRequest ⟨tag, .countersClear⟩
    (fun s => answerRequest ⟨tag, .countersClear⟩ .done (s.setCounters (.replicate 28 0))) s

end Sys2Proof.Machine
end

