-- ==== Sys2Proof/Machine/Settings.lean ====
section
/-! DEFINITION. SET, GET and STATUS_READ (sections 9.4 and 9.5). -/

namespace Sys2Proof.Machine

open Sys2Proof

/-! ### SET (R64, R169) -/

/-- The answer of a SET and what it stores (R168, R169). -/
def answerSet {α : Type} (q : Request) (o : SetOutcome α) (store : α → State → State) (s : State) : State :=
  match o with
  | .refused r => answerRequest q (.refused r) s
  | .stored x => answerRequest q .done (store x s)
  | .adjusted x v => answerWith q .adjusted (.value v) (store x s)

/-- The settings stored; a SET of DRAIN_HIGH or DRAIN_LOW judges the base mode at once (R109, R110). -/
def storeSettings (n : SettingName) (x : Settings) (s : State) : State :=
  let s := s.setSettings x
  match n with
  | .drainHigh => judgeBaseMode s
  | .drainLow => judgeBaseMode s
  | _ => s

def takeSet (q : Request) (n : ItemName) (spindle : Nat) (v : Value) (s : State) : State :=
  match n with
  | .setting k =>
    if spindle = 0 then answerSet q (setSetting s.settings k v) (storeSettings k) s
    else answerRequest q (.refused .badName) s
  | .param k =>
    match spindleOfNumber spindle with
    | some m =>
      answerSet q (setParam s.spindles[m].staged k v)
        (fun p s => setSpindle m { s.spindles[m] with staged := p } s) s
    | none => answerRequest q (.refused .badName) s
  | .readOnly _ => answerRequest q (.refused .badName) s
  | .other _ => answerRequest q (.refused .badName) s

/-- SET (R169). -/
def execSet (tag : Tag) (n : ItemName) (spindle : Nat) (v : Value) (s : State) : Result :=
  takeRequest ⟨tag, .set n spindle v⟩ (takeSet ⟨tag, .set n spindle v⟩ n spindle v) s

/-! ### GET (R65, R170) -/

/-- The value that a GET returns, or the reason it is refused (R170). -/
def getValue (s : State) (n : ItemName) (spindle selector : Nat) : Except Reason Value :=
  match n with
  | .setting k => if spindle = 0 then .ok (getSetting s.settings k) else .error .badName
  | .param k =>
    match spindleOfNumber spindle with
    | some m =>
      if selector = 1 then .ok (getParam s.spindles[m].active k)
      else if selector = 2 then .ok (getParam s.spindles[m].staged k)
      else .error .badValue
    | none => .error .badName
  | .readOnly k =>
    match spindleOfNumber spindle with
    | some m => .ok (getReadOnly s.spindles[m] k)
    | none => .error .badName
  | .other _ => .error .badName

def takeGet (q : Request) (n : ItemName) (spindle selector : Nat) (s : State) : State :=
  match getValue s n spindle selector with
  | .ok v => answerWith q .done (.value v) s
  | .error r => answerRequest q (.refused r) s

/-- GET (R170). -/
def execGet (tag : Tag) (n : ItemName) (spindle selector : Nat) (s : State) : Result :=
  takeRequest ⟨tag, .get n spindle selector⟩ (takeGet ⟨tag, .get n spindle selector⟩ n spindle selector) s

/-! ### STATUS_READ (R171) -/

/-- A drain job as it is reported (R36, R147, R171). -/
def jobReport : Job → JobReport
  | .sweep _ n _ k => { kind := .sweep, sheet := n, made := k, buffer := none }
  | .fill n k => { kind := .fill, sheet := n, made := k, buffer := none }
  | .load b n _ _ _ _ k => { kind := .load, sheet := n, made := k, buffer := some b.val }

/-- A sweep slot as it is reported (R23, R171). -/
def slotReport : Slot → SlotReport
  | .free => { state := .free, sweep := none }
  | .filling w => { state := .filling, sweep := some (w.sheet, w.row, w.received) }
  | .closed w => { state := .closed, sweep := some (w.sheet, w.row, w.received) }
  | .draining w => { state := .draining, sweep := some (w.sheet, w.row, w.received) }

def statusReport (s : State) : StatusReport :=
  { memory := s.port.state, owed := s.port.owed, mode := modeOf s, baseMode := s.sched.baseMode,
    deadline := s.sched.deadline, refreshing := s.sched.refreshing, windowAge := s.sched.windowAge,
    occupancy := s.drain.queue.length, jobs := s.drain.jobs.map jobReport,
    slots := s.ingest.slots.toList.map slotReport, hold := s.ingest.hold, stray := s.ingest.stray,
    queries := allSpindles.map (fun n => s.queries.records.countP (fun r => r.spindle == n)),
    links := s.links.toList.map (fun l => l.up), queued := s.cellQueue.length, frame := s.time.frame,
    machineTime := s.time.machineTime }

/-- STATUS_READ (R171). -/
def execStatusRead (tag : Tag) (s : State) : Result :=
  takeRequest ⟨tag, .statusRead⟩ (fun s => answerWith ⟨tag, .statusRead⟩ .done (.status (statusReport s)) s) s

end Sys2Proof.Machine
end

