-- ==== Sys2Proof/Machine/Resets.lean ====
section
/-! DEFINITION. Service reset (section 9.6) and the power-on reset input (R174). -/

namespace Sys2Proof.Machine

open Sys2Proof

/-! ### SERVICE_RESET (R172) -/

/-- A sheet at service reset: SCANNING and READY are kept; the others are given up, RETIRING while an operation for them
is in flight and FREE otherwise (R21). -/
def sheetAtServiceReset (inFlight : Bool) (x : Sheet) : Option Sheet :=
  match x.state with
  | .scanning => some x
  | .ready => some x
  | .filling | .loading | .retiring => if inFlight then some { x with state := .retiring } else none

/-- One sheet at service reset: its waiting SHEET_READY is refused; a waiting SHEET_CLOSE is answered DONE if the sheet
becomes FREE (R21). -/
def resetSheet (n : Nat) (s : State) : State :=
  let s := refuseReady n s
  match sheetAt s n with
  | none => s
  | some x =>
    match sheetAtServiceReset (inFlightFor s n) x with
    | some x' => setSheet n (some x') s
    | none =>
      let s := setSheet n none s
      match x.closeWaiting with
      | some tag => reply tag (CellRequest.sheetClose n).kind .done .empty s
      | none => s

def resetSheets (s : State) : State := lowerAccepted (fun _ => 0) ((List.range 16).foldl (fun s n => resetSheet n s) s)

/-- The ingest and drain path emptied; the hold flag is kept (R45, R152). -/
def resetIngestAndDrain (s : State) : State :=
  let s := rewindByReset s
  let s := s.setIngest { s.ingest with slots := .replicate 2 .free, stray := 0 }
  (s.setDrain { jobs := [], queue := [] }).setBuffers (.replicate 4 none)

/-- The memory port at service reset: timers stopped, open banks marked, the operation in flight to be discarded (R144). -/
def resetPort (p : MemoryPort) : MemoryPort :=
  { p with
    banks := p.banks.map (fun b => { b with timer := none, closeWanted := b.row.isSome || b.closeWanted })
    inFlight := p.inFlight.map (fun o => { o with discard := true, afterReset := true }) }

/-- The scheduler at service reset; a refresh in progress stays so (R127). -/
def resetSched (c : Scheduler) : Scheduler :=
  { c with baseMode := .readFirst, deadline := false, windowAge := 0, windowIssued := false }

/-- The service reset on every block at once (R172). -/
def serviceReset (s : State) : State :=
  let s := resetIngestAndDrain s
  let s := resetSheets s
  let s := endWindowWith .cancelled s
  let s := s.setQueries { records := [], nextSeq := 0 }
  let s := mapSpindles contextAtServiceReset allSpindles s
  let s := (s.setPort (resetPort s.port)).setSched (resetSched s.sched)
  (s.setNotices { pending := 0, interval := 0 }).setCounters (.replicate 28 0)

/-- SERVICE_RESET (R172): answered DONE after the replies the reset makes; then the marked banks make a choice where the
port is idle (R105, R127). -/
def execServiceReset (tag : Tag) (s : State) : Result :=
  takeRequest ⟨tag, .serviceReset⟩
    (fun s => choose (answerRequest ⟨tag, .serviceReset⟩ .done (serviceReset s))) s

/-! ### The power-on reset input (R174) -/

/-- Every block at its power-on values, with new undefined memory contents; the commands that wait are not the part's. -/
def powerOn (s : State) : State :=
  { State.reset with resetAsserted := true, powerOns := s.powerOns + 1, pending := s.pending }

/-- POWER_ON_RESET: the asserted input holds the part in its power-on state (R174). -/
def execPowerOnReset (s : State) : Result := .next (powerOn s)

/-- POWER_ON_RESET_RELEASE: the time base counts from the next tick and the start-up sequence is under way (R129, R174);
with the input not asserted nothing changes (log 4). -/
def execPowerOnResetRelease (s : State) : Result := .next { s with resetAsserted := false }

end Sys2Proof.Machine
end

