-- ==== Sys2Proof/Machine/Dispatch.lean ====
section
/-! DEFINITION. One arm per command: its meaning, called directly. -/

namespace Sys2Proof.Machine

open Sys2Proof

def exec (i : Instr) (s : State) : Host.Outcome State Fault Refusal :=
  match i with
  | .set tag name spindle value => Sys2Proof.Machine.execSet tag name spindle value s
  | .get tag name spindle selector => Sys2Proof.Machine.execGet tag name spindle selector s
  | .statusRead tag => Sys2Proof.Machine.execStatusRead tag s
  | .sheetOpen tag sheet kind width height pitch quantum base href policy floor => Sys2Proof.Machine.execSheetOpen tag sheet kind width height pitch quantum base href policy floor s
  | .sheetReady tag sheet => Sys2Proof.Machine.execSheetReady tag sheet s
  | .sheetClose tag sheet => Sys2Proof.Machine.execSheetClose tag sheet s
  | .sheetStatus tag sheet => Sys2Proof.Machine.execSheetStatus tag sheet s
  | .loadBlock tag sheet column row width height codes => Sys2Proof.Machine.execLoadBlock tag sheet column row width height codes s
  | .readWindow tag sheet column row width height => Sys2Proof.Machine.execReadWindow tag sheet column row width height s
  | .windowCancel tag => Sys2Proof.Machine.execWindowCancel tag s
  | .ingestHold tag => Sys2Proof.Machine.execIngestHold tag s
  | .ingestRelease tag => Sys2Proof.Machine.execIngestRelease tag s
  | .ingestFlush tag => Sys2Proof.Machine.execIngestFlush tag s
  | .spindleRelease tag spindles condition => Sys2Proof.Machine.execSpindleRelease tag spindles condition s
  | .spindleRetract tag spindles => Sys2Proof.Machine.execSpindleRetract tag spindles s
  | .spindleResume tag spindles => Sys2Proof.Machine.execSpindleResume tag spindles s
  | .timeSet tag value => Sys2Proof.Machine.execTimeSet tag value s
  | .alarmSet tag unit compare mask enable => Sys2Proof.Machine.execAlarmSet tag unit compare mask enable s
  | .noticeAck tag sources => Sys2Proof.Machine.execNoticeAck tag sources s
  | .countersRead tag => Sys2Proof.Machine.execCountersRead tag s
  | .countersClear tag => Sys2Proof.Machine.execCountersClear tag s
  | .serviceReset tag => Sys2Proof.Machine.execServiceReset tag s
  | .cellRequestArrives tag request => Sys2Proof.Machine.execCellRequestArrives tag request s
  | .sweepOpen tag sheet direction row => Sys2Proof.Machine.execSweepOpen tag sheet direction row s
  | .samples tag samples => Sys2Proof.Machine.execSamples tag samples s
  | .sweepClose tag check => Sys2Proof.Machine.execSweepClose tag check s
  | .depthQuery spindle tag due16 u v => Sys2Proof.Machine.execDepthQuery spindle tag due16 u v s
  | .touchOff spindle tag length => Sys2Proof.Machine.execTouchOff spindle tag length s
  | .idleSymbol port => Sys2Proof.Machine.execIdleSymbol port s
  | .otherSymbol port => Sys2Proof.Machine.execOtherSymbol port s
  | .lossOfCarrier port => Sys2Proof.Machine.execLossOfCarrier port s
  | .badRecord port bytes => Sys2Proof.Machine.execBadRecord port bytes s
  | .tick => Sys2Proof.Machine.execTick s
  | .frameMark => Sys2Proof.Machine.execFrameMark s
  | .urgencyPoint => Sys2Proof.Machine.execUrgencyPoint s
  | .alarmFire unit => Sys2Proof.Machine.execAlarmFire unit s
  | .powerOnReset => Sys2Proof.Machine.execPowerOnReset s
  | .powerOnResetRelease => Sys2Proof.Machine.execPowerOnResetRelease s
  | .initialisationComplete => Sys2Proof.Machine.execInitialisationComplete s
  | .openComplete => Sys2Proof.Machine.execOpenComplete s
  | .closeComplete => Sys2Proof.Machine.execCloseComplete s
  | .readComplete upset => Sys2Proof.Machine.execReadComplete upset s
  | .writeComplete => Sys2Proof.Machine.execWriteComplete s
  | .refreshComplete => Sys2Proof.Machine.execRefreshComplete s
  | .feederMakeEntry => Sys2Proof.Machine.execFeederMakeEntry s
  | .refreshIntervalExpiry => Sys2Proof.Machine.execRefreshIntervalExpiry s
  | .rowCloseTimerExpiry bank => Sys2Proof.Machine.execRowCloseTimerExpiry bank s
  | .windowChunkSent => Sys2Proof.Machine.execWindowChunkSent s

end Sys2Proof.Machine
end

