-- ==== Sys2Proof/Machine/Records.lean ====
section
/-! DEFINITION. The byte form of the records that the part sends (R162, R163, R164): coded fields, bodies and frames. -/

namespace Sys2Proof.Machine

open Sys2Proof

/-! ### Coded fields (R163, R164): states, kinds and modes by their place in the list of the rule that defines them -/

def depthOutcomeCode : DepthOutcome → Nat
  | .cut => 0
  | .outside => 1
  | .retract => 2
  | .heldVoid => 3
  | .heldAhead => 4
  | .heldLate => 5
  | .heldBusy => 6
  | .heldDuplicate => 7
  | .heldNotReady => 8
  | .heldNoSheet => 9
  | .heldUnbound => 10

/-- CLAMPED_LOW is bit 0, CLAMPED_FLOOR 1, LIMITED 2, ABOVE_REF 3, MEMORY 4; bits 5 to 7 are 0 (R163). -/
def modifierByte (m : Modifiers) : Nat :=
  m.clampedLow.toNat + 2 * m.clampedFloor.toNat + 4 * m.limited.toNat + 8 * m.aboveRef.toNat + 16 * m.memory.toNat

def sweepOutcomeCode : SweepOutcome → Nat
  | .good => 0
  | .refused => 1
  | .rewound => 2

/-- LINK has no code, because a sweep rewound LINK gets no SWEEP_RESULT (R163). -/
def sweepReasonCode : SweepReason → Option Nat
  | .none => some 0
  | .held => some 1
  | .badValue => some 2
  | .noSheet => some 3
  | .wrongKind => some 4
  | .rowOrder => some 5
  | .slotsFull => some 6
  | .superseded => some 7
  | .short => some 8
  | .long => some 9
  | .check => some 10
  | .flushed => some 11
  | .closed => some 12
  | .link => none

def resultCode : ReplyResult → Nat
  | .done => 0
  | .accepted => 1
  | .adjusted => 2
  | .cancelled => 3
  | .refused _ => 4

def reasonCode : Reason → Nat
  | .badName => 1
  | .badValue => 2
  | .wrongState => 3
  | .overlap => 4
  | .noRoom => 5
  | .busy => 6
  | .noSheet => 7

/-- NONE 0 for every result but REFUSED (R164). -/
def resultReasonCode : ReplyResult → Nat
  | .refused r => reasonCode r
  | _ => 0

/-- R111, R164. -/
def modeCode : Mode → Nat
  | .deadline => 0
  | .readFirst => 1
  | .writeFirst => 2

/-- R109. -/
def baseModeCode : BaseMode → Nat
  | .readFirst => 0
  | .writeFirst => 1

/-- R129. -/
def memoryStateCode : MemoryState → Nat
  | .init => 0
  | .run => 1

/-- R36. -/
def jobKindCode : EntryKind → Nat
  | .sweep => 0
  | .fill => 1
  | .load => 2

/-- R23. -/
def slotStateCode : SlotState → Nat
  | .free => 0
  | .filling => 1
  | .closed => 2
  | .draining => 3

/-- R6; FREE is 0. -/
def sheetStateCode : SheetState → Nat
  | .filling => 1
  | .loading => 2
  | .scanning => 3
  | .ready => 4
  | .retiring => 5

/-- R2, R27. -/
def policyCode : DropPolicy → Nat
  | .void => 0
  | .hold => 1

/-! ### Bodies (R164): counts, numbers and sizes take 4 bytes, states and flags 1, machine time 6 -/

def num (n : Nat) : List Byte := beBytes 4 n
def code (n : Nat) : List Byte := beBytes 1 n
def flag (b : Bool) : List Byte := beBytes 1 b.toNat

def jobBytes (j : JobReport) : List Byte :=
  code (jobKindCode j.kind) ++ num j.sheet ++ num j.made
    ++ (match j.buffer with
        | some b => num b
        | none => [])

def slotBytes (r : SlotReport) : List Byte :=
  code (slotStateCode r.state)
    ++ (match r.sweep with
        | some (n, y, k) => num n ++ num y ++ num k
        | none => [])

/-- The items of R171 in its order; the job list is preceded by its count. -/
def statusBytes (r : StatusReport) : List Byte :=
  code (memoryStateCode r.memory) ++ num r.owed
    ++ code (modeCode r.mode) ++ code (baseModeCode r.baseMode) ++ flag r.deadline ++ flag r.refreshing
    ++ num r.windowAge
    ++ num r.occupancy ++ code r.jobs.length ++ r.jobs.flatMap jobBytes
    ++ r.slots.flatMap slotBytes ++ flag r.hold ++ num r.stray.toNat
    ++ r.queries.flatMap num ++ r.links.flatMap flag ++ num r.queued ++ num r.frame.toNat
    ++ beBytes 6 r.machineTime.toNat

/-- The items of R19 in its order; a FREE sheet gives its state alone. R19's last item, whether a SHEET_READY or a SHEET_CLOSE
is waiting, is carried as two flag bytes, SHEET_READY's and then SHEET_CLOSE's. R19 lists it as one item, so one yes-or-no
byte could be read there: two bytes are the model's (DESIGN CHOICE, log 22). -/
def sheetBytes : Option SheetReport → List Byte
  | none => code 0
  | some r =>
    code (sheetStateCode r.state)
      ++ code (match r.kind with
          | .relief _ => 0
          | .letter _ => 1)
      ++ num r.geom.width ++ num r.geom.height ++ num r.geom.pitch ++ num r.geom.quantum ++ num r.geom.base
      ++ num r.extent
      ++ (match r.kind with
          | .relief x => num x.href ++ code (policyCode x.policy) ++ num x.accepted ++ num x.written
          | .letter f => num f)
      ++ (match r.fillProgress with
          | some k => num k
          | none => [])
      ++ num r.voidCount ++ num r.heldCount ++ num r.jobs ++ num r.entries ++ num r.queries
      ++ flag r.windowReading ++ flag r.readyWaiting ++ flag r.closeWaiting

def bodyBytes : ReplyBody → List Byte
  | .empty => []
  | .value v => valueBytes v
  | .total n => num n
  | .status r => statusBytes r
  | .sheet r => sheetBytes r
  | .counters cs => cs.flatMap (fun c => num c.toNat)

/-! ### Records (R163, R164, R165) -/

/-- The kind, the tag and the payload of a record sent; `none` for a result that no record can carry (R163). -/
def recordParts : OutRecord → Option (Nat × Tag × List Byte)
  | .depthReply tag frameLow cut c o m =>
    some (144, tag, beBytes 2 frameLow.toNat ++ beBytes 3 cut ++ beSigned 2 c ++ code (depthOutcomeCode o)
      ++ code (modifierByte m))
  | .touchResult tag ok c => some (145, tag, code (if ok then 0 else 1) ++ beSigned 4 c)
  | .frameMark f t => some (146, 0, beBytes 4 f.toNat ++ beBytes 6 t.toNat)
  | .sweepResult tag o row r =>
    (sweepReasonCode r).map (fun k => (112, tag, code (sweepOutcomeCode o) ++ beBytes 2 row ++ code k))
  | .cellReply tag kind r body =>
    some (64, tag, code kind ++ code (resultCode r) ++ code (resultReasonCode r)
      ++ beBytes 2 (bodyBytes body).length ++ bodyBytes body)
  | .windowChunk tag index cs => some (65, tag, beBytes 4 index ++ beBytes 2 cs.length ++ codeBytes cs)
  | .notice src f m => some (66, 0, beBytes 2 src.toNat ++ beBytes 4 f.toNat ++ code (modeCode m))

/-- The framed bytes of a record sent (R162). -/
def recordBytes (r : OutRecord) : Option (List Byte) :=
  (recordParts r).map (fun (kind, tag, payload) => frameBytes kind tag payload)

end Sys2Proof.Machine
end

