-- ==== Sys2Proof/WellFormed.lean ====
section
/-! DEFINITION. Well-formed commands: every operand fits the field of the record that carries it (R163, R164), so that
the command is one a good record can bring. `exec` is total on every command. -/

namespace Sys2Proof

/-- A text of R164 has 1 to 32 characters. -/
def textFits (t : List Byte) : Bool := 1 ≤ t.length && t.length ≤ 32

/-- A name stands as its own constructor, not as `other` with its text. -/
def ItemName.wellFormed : ItemName → Bool
  | .other t => textFits t && itemOfText t == .other t
  | _ => true

def ValueName.wellFormed : ValueName → Bool
  | .other t => textFits t && valueOfText t == .other t
  | _ => true

/-- A number is a signed 32-bit number (R169). -/
def Value.wellFormed : Value → Bool
  | .number n => -2147483648 ≤ n && n ≤ 2147483647
  | .name n => n.wellFormed
  | .sources _ => true

def fitsByte (n : Nat) : Bool := n < 256
def fits2 (n : Nat) : Bool := n < 65536
def fits3 (n : Nat) : Bool := n < 16777216
def fits4 (n : Nat) : Bool := n < 4294967296

/-- A coordinate of a depth query: −8,388,608 to 8,388,607 (section 5.2, R163). -/
def fitsCoordinate (n : Int) : Bool := -8388608 ≤ n && n ≤ 8388607

/-- The operands of a request fit its layout (R164). -/
def CellRequest.wellFormed : CellRequest → Bool
  | .set n sp v => n.wellFormed && fitsByte sp && v.wellFormed
  | .get n sp sel => n.wellFormed && fitsByte sp && fitsByte sel
  | .sheetOpen n k w h p q b hr po f =>
    fitsByte n && fitsByte k && fits2 w && fits2 h && fits2 p && fitsByte q && fits3 b && fits4 hr && fitsByte po
      && fits4 f
  | .sheetReady n => fitsByte n
  | .sheetClose n => fitsByte n
  | .sheetStatus n => fitsByte n
  | .loadBlock n x y w h cs => fitsByte n && fits2 x && fits2 y && fits2 w && fits2 h && cs.length ≤ 1024
  | .readWindow n x y w h => fitsByte n && fits2 x && fits2 y && fits2 w && fits2 h
  | .spindleRelease _ c => fitsByte c
  | .alarmSet u _ _ e => fitsByte u && fitsByte e
  | .statusRead => true
  | .windowCancel => true
  | .ingestHold => true
  | .ingestRelease => true
  | .ingestFlush => true
  | .spindleRetract _ => true
  | .spindleResume _ => true
  | .timeSet _ => true
  | .noticeAck _ => true
  | .countersRead => true
  | .countersClear => true
  | .serviceReset => true

/-- The operands of a command fit the record or request that carries them; a bad record is one R165 judges bad. -/
def Instr.wellFormed (i : Instr) : Bool :=
  match i.request? with
  | some r => r.body.wellFormed
  | none =>
    match i with
    | .cellRequestArrives _ r => r.wellFormed
    | .sweepOpen _ n d y => fitsByte n && fitsByte d && fits2 y
    | .samples _ xs => 1 ≤ xs.length && xs.length ≤ 512
    | .depthQuery _ _ _ u v => fitsCoordinate u && fitsCoordinate v
    | .touchOff _ _ l => fits3 l
    | .badRecord p bs => (decodeRecord p bs).isNone
    | _ => true

end Sys2Proof
end

