-- ==== Sys2Proof/Safety.lean ====
section
/-! DEFINITION. The terms that claims use: what a command leaves unchanged, requests at the front of the queue, and the
laws of the device that hold along every run. -/

namespace Sys2Proof.Machine

open Sys2Proof

/-! ### What stays unchanged -/

/-- The parts of the state. -/
inductive Block where
  | resetInput | powerOns | sheets | ingest | drain | time | spindles | queries | sched | port | mem | buffers | window
  | links | cellQueue | settings | notices | counters | pending
  deriving DecidableEq, Repr

/-- A part is the same in two states. -/
def Block.same (s t : State) : Block → Prop
  | .resetInput => t.resetAsserted = s.resetAsserted
  | .powerOns => t.powerOns = s.powerOns
  | .sheets => t.sheets = s.sheets
  | .ingest => t.ingest = s.ingest
  | .drain => t.drain = s.drain
  | .time => t.time = s.time
  | .spindles => t.spindles = s.spindles
  | .queries => t.queries = s.queries
  | .sched => t.sched = s.sched
  | .port => t.port = s.port
  | .mem => t.mem = s.mem
  | .buffers => t.buffers = s.buffers
  | .window => t.window = s.window
  | .links => t.links = s.links
  | .cellQueue => t.cellQueue = s.cellQueue
  | .settings => t.settings = s.settings
  | .notices => t.notices = s.notices
  | .counters => t.counters = s.counters
  | .pending => t.pending = s.pending

/-- Everything but the listed parts is the same in `t` as in `s`. -/
def Unchanged (except : List Block) (s t : State) : Prop := ∀ b : Block, b ∉ except → b.same s t

/-! ### Requests -/

/-- The part runs and a request stands at the front of the cell request queue, before `rest` (R167). -/
def AtFront (q : Request) (rest : List Request) (s : State) : Prop :=
  s.resetAsserted = false ∧ s.cellQueue = q :: rest

/-- The links after one CELL_REPLY to a request (R168). -/
def repliedLinks (q : Request) (result : ReplyResult) (body : ReplyBody) (s : State) : Vector Link 8 :=
  (send .c (.cellReply q.tag q.body.kind result body) s).links

/-- A request has left the front of the queue, its CELL_REPLY is the one record made, and beyond the listed parts
nothing else has changed (R167, R168). -/
def Answered (q : Request) (result : ReplyResult) (body : ReplyBody) (rest : List Request) (parts : List Block)
    (s t : State) : Prop :=
  t.cellQueue = rest ∧ t.links = repliedLinks q result body s ∧ Unchanged (.cellQueue :: .links :: parts) s t

/-- A request has been refused: it is answered with the reason and changes no state (R168). -/
def Refused (q : Request) (r : Reason) (rest : List Request) (s t : State) : Prop :=
  Answered q (.refused r) .empty rest [] s t

/-- The part runs and a port is UP. -/
def Listening (p : Port) (s : State) : Prop := s.resetAsserted = false ∧ portUp s p = true

/-- A good record taken on an UP port has returned its bad count to 0 (R165). -/
def afterGoodRecord (p : Port) (s : State) : State := setLink p { linkOf s p with bad := 0 } s

/-! ### What a report, a judgement and a reply say -/

/-- A sweep slot as a report gives it: its state, and its sheet, row and received count where it is not FREE (R23). -/
def SlotReported (x : Slot) (r : SlotReport) : Prop :=
  match x with
  | .free => r.state = .free ∧ r.sweep = none
  | .filling w => r.state = .filling ∧ r.sweep = some (w.sheet, w.row, w.received)
  | .closed w => r.state = .closed ∧ r.sweep = some (w.sheet, w.row, w.received)
  | .draining w => r.state = .draining ∧ r.sweep = some (w.sheet, w.row, w.received)

/-- A drain job as a report gives it: its kind, its sheet, its entries made so far, and a load job's buffer (R36, R171). -/
def JobReported (j : Job) (r : JobReport) : Prop :=
  match j with
  | .sweep _ n _ k => r.kind = .sweep ∧ r.sheet = n ∧ r.made = k ∧ r.buffer = none
  | .fill n k => r.kind = .fill ∧ r.sheet = n ∧ r.made = k ∧ r.buffer = none
  | .load b n _ _ _ _ k => r.kind = .load ∧ r.sheet = n ∧ r.made = k ∧ r.buffer = some b.val

/-- The base mode of `s` judged against the drain occupancy of `t` by the marks of `s`: an entry into WRITE_FIRST sets
DRAIN_PRESSURE and counts, and no other judgement does (R109). -/
def BaseModeJudged (s t : State) : Prop :=
  let occupancy := t.drain.queue.length
  let quiet := t.notices.pending.getLsbD 9 = s.notices.pending.getLsbD 9
    ∧ t.counters[cntWriteFirst] = s.counters[cntWriteFirst]
  (s.sched.baseMode = .readFirst → s.settings.drainHigh ≤ occupancy → t.sched.baseMode = .writeFirst
      ∧ t.notices.pending.getLsbD 9 = true ∧ t.counters[cntWriteFirst] = s.counters[cntWriteFirst] + 1)
  ∧ (s.sched.baseMode = .readFirst → occupancy < s.settings.drainHigh → t.sched.baseMode = .readFirst ∧ quiet)
  ∧ (s.sched.baseMode = .writeFirst →
      (t.sched.baseMode = .readFirst ↔ occupancy ≤ min s.settings.drainLow (s.settings.drainHigh - 8)) ∧ quiet)

/-- The replies of a held outcome to records of one spindle, oldest first, made in one frame: each cut is the smaller of
the held depth that the reply before it left and the record's L (R83, R96, R97). -/
def heldReplies (outcome : DepthOutcome) (frame : FrameNumber) : Nat → List QueryRecord → List OutRecord
  | _, [] => []
  | held, r :: rest =>
    .depthReply r.tag (frame.setWidth 16) (min held r.floor) r.correction outcome noModifiers
      :: heldReplies outcome frame (min held r.floor) rest

/-- The held depth that those replies leave (R72). -/
def heldAfter (held : Nat) (rs : List QueryRecord) : Nat := rs.foldl (fun h r => min h r.floor) held

/-- The reply counters, 10 to 14, have risen by these numbers of replies made: CUT, HELD_VOID, HELD_AHEAD, HELD_LATE and the
other held outcomes. OUTSIDE and RETRACT replies raise none (R179). -/
def RepliesCounted (cuts voids aheads lates others : Nat) (s t : State) : Prop :=
  t.counters[cntCut] = s.counters[cntCut] + BitVec.ofNat 32 cuts
    ∧ t.counters[cntHeldVoid] = s.counters[cntHeldVoid] + BitVec.ofNat 32 voids
    ∧ t.counters[cntHeldAhead] = s.counters[cntHeldAhead] + BitVec.ofNat 32 aheads
    ∧ t.counters[cntHeldLate] = s.counters[cntHeldLate] + BitVec.ofNat 32 lates
    ∧ t.counters[cntOtherHeld] = s.counters[cntOtherHeld] + BitVec.ofNat 32 others

/-- The words of a row that hold a needed column of the cell at column `i` with fraction `fx`, in their order: columns
`i` and `i + 1` lie in two words when `i mod 4` is 3 (R86, R88). -/
def neededWords (i fx : Nat) : List Nat :=
  if fx = 0 then [i / 4]
  else if fx = 256 then [(i + 1) / 4]
  else if i % 4 = 3 then [i / 4, i / 4 + 1] else [i / 4]

/-- A code is what the fetches of a record hold for the sample at column `x`, row `y`: its lane of the word returned to
the one fetch of the sample's tile and word (R4, R5, R88, R91). -/
def FetchedSample (g : Geometry) (r : QueryRecord) (x y : Nat) (c : Code) : Prop :=
  ∃ (f : Fetch) (w : CellWord) (bad : Bool), f ∈ r.fetches ∧ f.tile = g.base + (y / 32) * (g.width / 32) + x / 32
    ∧ f.word = (y % 32) * 8 + x % 32 / 4 ∧ f.state = .done w bad ∧ c = w.extractLsb' (16 * (x % 4)) 16
    ∧ ∀ f' ∈ r.fetches, f'.tile = f.tile → f'.word = f.word → f' = f

/-- The event still outstanding that a TICK or a TIME_SET takes first (the model's order, log 2). -/
def nextOutstanding (s : State) : Option Instr :=
  if s.time.alarmDue[(0 : Fin 2)] then some (.alarmFire 0)
  else if s.time.alarmDue[(1 : Fin 2)] then some (.alarmFire 1)
  else if s.time.markDue then some .frameMark
  else if s.time.urgencyDue then some .urgencyPoint
  else if s.port.refreshLeft = some 0 then some .refreshIntervalExpiry
  else (allBanks.find? (fun b => (s.port.banks[b]).timer == some 0)).map .rowCloseTimerExpiry

/-! ### The window reader -/

/-- A row of a sheet is read when the reader takes it up: the sheet is READY, or the row lies below its frontier (R154). -/
def RowReadable (s : State) (n y : Nat) : Prop :=
  ∃ x, sheetAt s n = some x ∧ (x.state = .ready ∨ ∃ r, x.state = .scanning ∧ x.kind = .relief r ∧ y < r.written)

/-- The window READ in flight still has its owner. -/
def WindowReadUnderWay (s : State) : Prop :=
  ∃ o, s.port.inFlight = some o ∧ o.discard = false ∧ ∃ tile word y k, o.op = .read tile word (.window y k)

/-- The reader `w` after its word `k` of row `y` has been issued is `v`: it offers the row's next word; after the last it
takes up the rows that follow, and those it does not read leave their VOID codes to place, until one is read or none is left
(R154, and log 12 for a row after one that is not read). -/
def WindowAdvanced (s : State) (w : WindowRead) (y k : Nat) (v : WindowRead) : Prop :=
  let last := (w.column + w.width - 1) / 4
  let bottom := w.row + w.height
  (k < last → v = { w with cursor := some (y, k + 1) })
  ∧ (∀ next, last ≤ k → y < next → next < bottom → RowReadable s w.sheet next →
      (∀ m, y < m → m < next → ¬ RowReadable s w.sheet m) →
      v = { w with cursor := some (next, w.column / 4), voids := w.voids + (next - (y + 1)) * w.width })
  ∧ (last ≤ k → (∀ m, y < m → m < bottom → ¬ RowReadable s w.sheet m) →
      v = { w with cursor := none, voids := w.voids + (bottom - (y + 1)) * w.width })

/-- VOID codes placed from the reader `w`, with no chunk of its window waiting, leave the window `v` and make the records
`sent`: as many as are left or as the open chunk has room for. A chunk that they fill is sent and holds up the rest; the
placement that completes the window sends the chunk and answers READ_WINDOW DONE (R155, R157). `chunkCap` is the setting,
the cap of a chunk that has no sample yet. -/
def VoidsPlaced (chunkCap : Nat) (w : WindowRead) (v : Option WindowRead) (sent : List OutRecord) : Prop :=
  let cap := if w.chunk = [] then chunkCap else w.cap
  let room := cap - w.chunk.length
  let count := min w.voids room
  let chunk := w.chunk ++ List.replicate count 65535
  let total := w.width * w.height
  (w.voids = 0 → v = some w ∧ sent = [])
  ∧ (0 < w.voids → w.voids < room → w.placed + count < total → sent = []
      ∧ v = some { w with voids := 0, placed := w.placed + count, chunk := chunk, cap := cap })
  ∧ (0 < w.voids → room ≤ w.voids → w.placed + count < total → sent = [.windowChunk w.tag w.nextIndex chunk]
      ∧ v = some { w with voids := w.voids - room, placed := w.placed + count, chunk := [], cap := cap, hold := 0,
                          nextIndex := w.nextIndex + 1, waiting := w.waiting + 1 })
  ∧ (0 < w.voids → w.placed + count = total → v = none
      ∧ sent = [.windowChunk w.tag w.nextIndex chunk, .cellReply w.tag 9 .done (.total total)])

/-! ### Completions -/

/-- A bank after an OPEN, READ or WRITE to it: its row close timer starts with ROW_CLOSE_TIME, where that is not 0; after a
service reset it is marked close-wanted with its timer stopped (R131, R132, R134, R136, R144). -/
def restartedBank (s : State) (afterReset : Bool) (k : Bank) : Bank :=
  if afterReset = true then { k with timer := none, closeWanted := true }
  else { k with timer := if s.settings.rowCloseTime = 0 then none else some s.settings.rowCloseTime }

/-- Bank `b` of `u` is the bank `k`, judged against the candidates of `u` at the end of a completion where it is OPEN and
unmarked with no timer running: where a candidate names its row its timer starts with ROW_CLOSE_TIME as it stands, and with 0
stays stopped; where none does it is marked close-wanted. Otherwise it is as it was (R135, R136; that every such bank is judged
is the model's reading, log 15). -/
def BankJudged (u : State) (b : Fin 8) (k : Bank) : Prop :=
  let named := ∃ tile ∈ candidateTiles u, bankOf tile = b ∧ k.row = some (tile / 8)
  (k.row ≠ none → k.timer = none → k.closeWanted = false →
    (named → u.port.banks[b] =
      { k with timer := if u.settings.rowCloseTime = 0 then none else some u.settings.rowCloseTime })
    ∧ (¬ named → u.port.banks[b] = { k with closeWanted := true }))
  ∧ (k.row = none ∨ k.timer ≠ none ∨ k.closeWanted = true → u.port.banks[b] = k)

/-- The end of a completion: the operation has left the port, whose state and refresh interval stay, and the next state is
the choice made from there, which changes the parts of an issue alone (R105, R130). -/
def ChosenFrom (s u t : State) : Prop :=
  t = choose u ∧ u.port.inFlight = none ∧ u.port.state = s.port.state ∧ u.port.refreshLeft = s.port.refreshLeft
    ∧ Unchanged [.port, .sched, .queries, .window, .counters] u t

/-! ### Ranges of numeric settings (section 9.4, R63) -/

/-- The range of a numeric global setting whose ends are fixed and whose every value is admitted. -/
def settingRange : SettingName → Option (Int × Int)
  | .framePeriod => some (1000, 100000)
  | .urgentWindow => some (100, 100000)
  | .drainHigh => some (8, 64)
  | .windowStarve => some (1, 255)
  | .rowCloseTime => some (0, 10000)
  | .refreshInterval => some (20, 200)
  | .chunkHold => some (1, 64)
  | .noticeInterval => some (1, 1000)
  | .drainLow => none
  | .chunkCap => none
  | .noticeEnables => none
  | .alwaysSend => none

/-- The range of a numeric spindle parameter. -/
def paramRange : ParamName → Option (Int × Int)
  | .originX => some (-16777216, 16777215)
  | .originY => some (-16777216, 16777215)
  | .ratio => some (1024, 32768)
  | .passFloor => some (0, 2000000)
  | .allowance => some (0, 65535)
  | .plungeLimit => some (1, 65535)
  | .vFactor => some (1024, 32767)
  | .toolNominal => some (0, 500000)
  | .touchLimit => some (0, 2047)
  | .sheet => none
  | .mirrorX => none
  | .mirrorY => none

/-- What a SET of a number to a range answers: DONE where it lies within, else ADJUSTED with the nearer end (R169). -/
def numberResult (lo hi n : Int) : ReplyResult := if lo ≤ n ∧ n ≤ hi then .done else .adjusted

def numberBody (lo hi n : Int) : ReplyBody :=
  if lo ≤ n ∧ n ≤ hi then .empty else .value (.number (max lo (min hi n)))

/-! ### The checks of SHEET_OPEN (R10) -/

/-- The fields that check 3 admits. Kind 0 is RELIEF and 1 LETTER; policy 0 is VOID and 1 HOLD (R164). -/
def OpenFieldsLawful (kind w h p q href policy floor : Nat) : Prop :=
  (w % 32 = 0 ∧ 32 ≤ w ∧ w ≤ 16384) ∧ (h % 32 = 0 ∧ 32 ≤ h ∧ h ≤ 16384) ∧ (10 ≤ p ∧ p ≤ 2000)
    ∧ (q = 1 ∨ q = 2 ∨ q = 5 ∨ q = 10 ∨ q = 20 ∨ q = 50)
    ∧ ((kind = 0 ∧ href ≤ 65534 * q ∧ (policy = 0 ∨ policy = 1)) ∨ (kind = 1 ∧ floor ≤ 2000000))

/-- A run of tiles overlaps the extent of a sheet that is not FREE: each base is lower than the other's base plus its
extent (R11). -/
def ExtentTaken (s : State) (base count : Nat) : Prop :=
  ∃ (m : Nat) (x : Sheet), sheetAt s m = some x ∧ base < x.geom.base + extentOf x.geom ∧ x.geom.base < base + count

/-! ### Laws of the device -/

/-- No tile lies in the extents of two sheets that are not FREE (R11). -/
def ExtentsApart (s : State) : Prop :=
  ∀ (m n : Nat) (x y : Sheet), m ≠ n → sheetAt s m = some x → sheetAt s n = some y →
    ¬ ∃ tile, (x.geom.base ≤ tile ∧ tile < x.geom.base + extentOf x.geom)
      ∧ (y.geom.base ≤ tile ∧ tile < y.geom.base + extentOf y.geom)

/-- The query table holds at most four records of a spindle port, and the six ports share it (R79). -/
def QueriesBounded (s : State) : Prop :=
  ∀ n : Fin 6, s.queries.records.countP (fun r => r.spindle == n) ≤ 4

/-- The drain queue holds at most 64 entries (R40). -/
def QueueBounded (s : State) : Prop := s.drain.queue.length ≤ 64

/-- The cell request queue holds at most four requests (R167). -/
def RequestsBounded (s : State) : Prop := s.cellQueue.length ≤ 4

/-- Refresh owed stays within 0 to 8 (R137). -/
def OwedBounded (s : State) : Prop := s.port.owed ≤ 8

/-- At most one sweep slot is FILLING (R23). -/
def OneFilling (s : State) : Prop :=
  ¬ ((s.ingest.slots[(0 : Fin 2)].filling?).isSome ∧ (s.ingest.slots[(1 : Fin 2)].filling?).isSome)

/-- A DOWN port holds nothing to send and no bad count; an idle count stays below 64 and a bad count below 8 (R160,
R161, R165). -/
def LinksLawful (s : State) : Prop :=
  ∀ p : Port, let l := linkOf s p
    l.idle < 64 ∧ l.bad < 8 ∧ (l.up = true → l.idle = 0) ∧ (l.up = false → l.bad = 0 ∧ l.toSend = [])

/-- FRAME_PERIOD, URGENT_WINDOW, P and U lie in their ranges, U within P, the frame tick count lies below P, and a mark
that is still to be taken stands at count 0 (R48, R49, R52). -/
def TimeLawful (s : State) : Prop :=
  1000 ≤ s.settings.framePeriod ∧ s.settings.framePeriod ≤ 100000
    ∧ 100 ≤ s.settings.urgentWindow ∧ s.settings.urgentWindow ≤ 100000
    ∧ 1000 ≤ s.time.period ∧ s.time.period ≤ 100000 ∧ 100 ≤ s.time.window ∧ s.time.window ≤ s.time.period
    ∧ s.time.ticks < s.time.period ∧ (s.time.markDue = true → s.time.ticks = 0)

/-- The bounds and link laws of the device together. -/
def DeviceBounds (s : State) : Prop :=
  QueriesBounded s ∧ QueueBounded s ∧ RequestsBounded s ∧ OwedBounded s ∧ OneFilling s ∧ LinksLawful s ∧ TimeLawful s

/-- The law of the row counts (R7): rows written never exceeds rows accepted, nor rows accepted H, with two rows at most in
between; and what makes that law last: the rows in between are those on their way, and a READY sheet has all its rows. -/
def RowCountsLawful (s : State) : Prop :=
  ∀ (n : Nat) (x : Sheet) (r : Relief), sheetAt s n = some x → x.kind = .relief r →
    r.written ≤ r.accepted ∧ r.accepted ≤ x.geom.height ∧ r.accepted ≤ r.written + 2
    ∧ x.state ≠ .filling ∧ x.state ≠ .loading ∧ (x.state = .ready → r.written = x.geom.height)
    ∧ (x.state ≠ .retiring → r.accepted = r.written + rowsOnTheirWay s n)

/-- The FILLING sweep is the next row of a SCANNING sheet with room for it (R23, R24). -/
def FillingLawful (s : State) : Prop :=
  ∀ (i : Fin 2) (w : Sweep), s.ingest.slots[i] = .filling w →
    ∃ (x : Sheet) (r : Relief), sheetAt s w.sheet = some x ∧ x.kind = .relief r ∧ x.state = .scanning
      ∧ w.row = r.accepted ∧ r.accepted < x.geom.height ∧ r.accepted < r.written + 2

/-- The slot of a sweep job. -/
def Job.slot? : Job → Option (Fin 2)
  | .sweep i _ _ _ => some i
  | .fill _ _ => none
  | .load _ _ _ _ _ _ _ => none

/-- The buffer of a load job. -/
def Job.buffer? : Job → Option (Fin 4)
  | .sweep _ _ _ _ => none
  | .fill _ _ => none
  | .load b _ _ _ _ _ _ => some b

/-- The place of a job is taken: a sweep job's slot is CLOSED or DRAINING, a load job's buffer is HELD (R23, R36, R147). -/
def PlaceTaken (s : State) : Job → Prop
  | .sweep i _ _ _ => ∃ w, s.ingest.slots[i] = .closed w ∨ s.ingest.slots[i] = .draining w
  | .fill _ _ => True
  | .load b _ _ _ _ _ _ => s.buffers[b] ≠ none

/-- The bounds of the job list (R40): two sweep jobs, one fill job and four load jobs, each in a place of its own (R36). -/
def JobsBounded (s : State) : Prop :=
  s.drain.jobs.countP (fun j => j.slot?.isSome) ≤ 2 ∧ s.drain.jobs.countP Job.isFill ≤ 1
    ∧ s.drain.jobs.countP (fun j => j.buffer?.isSome) ≤ 4
    ∧ (s.drain.jobs.filterMap Job.slot?).Nodup ∧ (s.drain.jobs.filterMap Job.buffer?).Nodup
    ∧ ∀ j ∈ s.drain.jobs, PlaceTaken s j

/-- Drain jobs and entries are of sheets that are neither FREE nor RETIRING (R17, R18). -/
def DrainWorkLive (s : State) : Prop :=
  let live (n : Nat) : Prop := ∃ x, sheetAt s n = some x ∧ x.state ≠ .retiring
  (∀ j ∈ s.drain.jobs, live j.sheetOf) ∧ ∀ e ∈ s.drain.queue, live e.sheet

/-- The row counts and the job list together, with the law of one FILLING sweep on which they rest (R7, R23, R40). -/
def RowsAndJobsLawful (s : State) : Prop :=
  RowCountsLawful s ∧ FillingLawful s ∧ OneFilling s ∧ JobsBounded s ∧ DrainWorkLive s

/-- The deadline flag is set exactly while an urgent record of the table has a WAITING fetch (R111). -/
def DeadlineLawful (s : State) : Prop :=
  s.sched.deadline = true ↔ ∃ r ∈ s.queries.records, r.urgent = true ∧ ∃ f ∈ r.fetches, f.state = .waiting

/-- No event of the last tick, mark or load is still to be taken (log 2). -/
def NoneOutstanding (s : State) : Prop :=
  (∀ a : Fin 2, s.time.alarmDue[a] = false) ∧ s.time.markDue = false ∧ s.time.urgencyDue = false
    ∧ s.port.refreshLeft ≠ some 0 ∧ ∀ b : Fin 8, (s.port.banks[b]).timer ≠ some 0

/-! ### Link down -/

/-- The READ in flight `o` loses its owner when port `p` goes DOWN: a READ of the window at Port C, the READ of a record that
is withdrawn at a spindle port, and none at Port T (R103, R159). -/
def ReadLost (p : Port) (s : State) (o : InFlight) : Prop :=
  match p with
  | .c => ∃ tile word y k, o.op = .read tile word (.window y k)
  | .t => False
  | .s n => ∃ tile word seq index, o.op = .read tile word (.fetch seq index)
      ∧ ∃ r ∈ s.queries.records, r.spindle = n ∧ r.seq = seq

/-- Port `p` has gone DOWN and the owners of its state have acted, from `s` to `t`: nothing is left to send and LINK_CHANGE is
set. Port C empties the request queue, withdraws waiting SHEET_READYs and abandons the window; Port T rewinds the FILLING sweep
LINK with its notice and count and no result; a spindle port withdraws its queries and leaves its spindle RETRACTED at held
depth 0, and the deadline flag is judged, a set counting. A READ in flight that loses its owner so is to be discarded, and the
memory port is otherwise as it was (R22, R46, R75, R103, R111, R145, R159, R161, R173). -/
def TakenDown (p : Port) (s t : State) : Prop :=
  linkOf t p = { up := false, idle := 0, bad := 0, toSend := [] } ∧ (∀ p', p' ≠ p → linkOf t p' = linkOf s p')
    ∧ t.notices.pending.getLsbD 7 = true ∧ t.time = s.time ∧ t.settings = s.settings ∧ t.drain = s.drain
    ∧ t.buffers = s.buffers ∧ t.mem = s.mem ∧ RepliesCounted 0 0 0 0 0 s t
    ∧ (s.port.inFlight = none → t.port = s.port)
    ∧ (∀ o, s.port.inFlight = some o →
        (ReadLost p s o → t.port = { s.port with inFlight := some { o with discard := true } })
        ∧ (¬ ReadLost p s o → t.port = s.port))
    ∧ ((∀ n, p ≠ .s n) → t.sched = s.sched) ∧ (p = .c → t.counters = s.counters)
    ∧ (∀ n, p = .s n → t.sched = { s.sched with deadline := t.sched.deadline } ∧ DeadlineLawful t
        ∧ t.counters = (if s.sched.deadline = false ∧ t.sched.deadline = true
            then s.counters.set cntDeadline (s.counters[cntDeadline] + 1) else s.counters))
    ∧ (p = .c → t.cellQueue = [] ∧ t.window = none ∧ t.ingest = s.ingest ∧ t.spindles = s.spindles
        ∧ t.queries = s.queries
        ∧ (∀ n, sheetAt t n = (sheetAt s n).map (fun x => { x with readyWaiting := none })))
    ∧ (p = .t → t.sheets = s.sheets ∧ t.spindles = s.spindles ∧ t.queries = s.queries ∧ t.cellQueue = s.cellQueue
        ∧ t.window = s.window ∧ t.ingest.hold = s.ingest.hold ∧ t.ingest.stray = s.ingest.stray
        ∧ (fillingSweep s = none → t.ingest = s.ingest ∧ t.counters = s.counters)
        ∧ (∀ i w, fillingSweep s = some (i, w) → t.ingest.slots = s.ingest.slots.set i .free
            ∧ t.notices.pending.getLsbD 1 = true
            ∧ t.counters = s.counters.set cntSweepsRewound (s.counters[cntSweepsRewound] + 1)))
    ∧ (∀ n, p = .s n → t.queries.records = s.queries.records.filter (fun r => r.spindle != n)
        ∧ t.spindles = s.spindles.set n { s.spindles[n] with state := .retracted, held := 0, resumePending := false }
        ∧ t.sheets = s.sheets ∧ t.ingest = s.ingest ∧ t.cellQueue = s.cellQueue ∧ t.window = s.window)

/-! ### Wants and targets of the scheduler -/

/-- No access, no refresh and no idle close is wanted (R108). -/
def NothingWanted (s : State) : Prop :=
  s.queries.records = [] ∧ s.drain.queue = [] ∧ s.window = none ∧ s.port.owed = 0 ∧ s.sched.refreshing = false
    ∧ ∀ b : Fin 8, (s.port.banks[b]).closeWanted = false

/-- What a choice issues toward an access, by the state of the target's bank (R106). -/
def operationToward (s : State) (tile : Nat) (access : MemoryOp) : MemoryOp :=
  match (s.port.banks[bankOf tile]).row with
  | none => .openRow (bankOf tile) (tile / 8)
  | some row => if row = tile / 8 then access else .closeRow (bankOf tile)

/-- The next operation of a refresh: a CLOSE of the lowest OPEN bank, or the REFRESH (R117). -/
def refreshOperation (s : State) : MemoryOp :=
  match allBanks.find? (fun b => (s.port.banks[b]).row.isSome) with
  | some b => .closeRow b
  | none => .refresh

/-- The sheet that an operation issued at `s` is for: a fetch READ is of a candidate of the query class, a merge READ and a
WRITE are of the drain head, a window READ is of the word offered, and the other operations are for no sheet (R18). -/
def IssuedFor (s : State) (o : InFlight) : Prop :=
  (∀ tile word seq index, o.op = .read tile word (.fetch seq index) → ∃ c ∈ queryCandidates s,
      c.seq = seq ∧ c.index = index ∧ c.tile = tile ∧ c.word = word ∧ o.sheet = some c.sheet)
  ∧ ((∃ tile word, o.op = .read tile word .merge) ∨ (∃ tile word codes, o.op = .write tile word codes) →
      ∃ e rest, s.drain.queue = e :: rest ∧ o.sheet = some e.sheet)
  ∧ (∀ tile word y k, o.op = .read tile word (.window y k) → ∃ w, offeredWord s = some (w, y, k) ∧ o.sheet = some w.sheet)
  ∧ ((∃ b row, o.op = .openRow b row) ∨ (∃ b, o.op = .closeRow b) ∨ o.op = .refresh → o.sheet = none)

/-- What the issue of `o` does to the banks: an access stops the timer and clears the mark of its bank and counts there, a
CLOSE stops the timer and clears the mark, and every other bank stays (R131, R132). -/
def IssueTouches (s t : State) (o : InFlight) : Prop :=
  (∀ tile, (∃ word owner, o.op = .read tile word owner) ∨ (∃ word codes, o.op = .write tile word codes) →
    t.port.banks = s.port.banks.set (bankOf tile)
      { s.port.banks[bankOf tile] with timer := none, closeWanted := false, accessed := true })
  ∧ (∀ b, o.op = .closeRow b →
      t.port.banks = s.port.banks.set b { s.port.banks[b] with timer := none, closeWanted := false })
  ∧ ((∃ b row, o.op = .openRow b row) ∨ o.op = .refresh → t.port.banks = s.port.banks)

/-- What the issue of `o` counts: a row hit at an access that is not the first since the bank's OPEN, an OPEN, a merge READ, a
preemption at a CLOSE of the DEADLINE order whose row a non-urgent WAITING fetch needs, and a forced refresh at its start
(R106, R107, R116, R119). -/
def IssueCounted (s t : State) (o : InFlight) : Prop :=
  let same (k : Fin 28) : Prop := t.counters[k] = s.counters[k]
  let rises (k : Fin 28) : Prop := t.counters[k] = s.counters[k] + 1
  let hits := ∃ tile, ((∃ word owner, o.op = .read tile word owner) ∨ ∃ word codes, o.op = .write tile word codes)
    ∧ (s.port.banks[bankOf tile]).accessed = true
  let preempts := s.sched.refreshing = false ∧ s.port.owed < 8 ∧ s.sched.deadline = true
    ∧ ∃ c, firstUrgent s = some c ∧ o.op = .closeRow (bankOf c.tile)
      ∧ ∃ d ∈ queryCandidates s, d.urgent = false ∧ bankOf d.tile = bankOf c.tile
        ∧ (s.port.banks[bankOf d.tile]).row = some (d.tile / 8)
  (hits → rises cntRowHits) ∧ (¬ hits → same cntRowHits)
  ∧ ((∃ b row, o.op = .openRow b row) → rises cntOpens) ∧ ((∀ b row, o.op ≠ .openRow b row) → same cntOpens)
  ∧ ((∃ tile word, o.op = .read tile word .merge) → rises cntMergeReads)
  ∧ ((∀ tile word, o.op ≠ .read tile word .merge) → same cntMergeReads)
  ∧ (preempts → rises cntPreemptions) ∧ (¬ preempts → same cntPreemptions)
  ∧ (s.sched.refreshing = false → 8 ≤ s.port.owed → rises cntForcedRefreshes)
  ∧ (s.sched.refreshing = true ∨ s.port.owed < 8 → same cntForcedRefreshes)

/-- What the issue of `o` moves in the query table: the fetch of a fetch READ becomes ISSUED and no other fetch moves, and the
deadline flag is judged with it, a set counting as a DEADLINE entry; no other issue changes the table or the flag (R80, R106,
R111). -/
def IssueMovesFetch (s t : State) (o : InFlight) : Prop :=
  (∀ tile word seq index, o.op = .read tile word (.fetch seq index) →
    t.queries = { s.queries with records := s.queries.records.map (fun r =>
      if r.seq = seq then { r with fetches := r.fetches.modify index (fun f => { f with state := .issued }) } else r) }
    ∧ DeadlineLawful t
    ∧ t.counters[cntDeadline] = (if s.sched.deadline = false ∧ t.sched.deadline = true then s.counters[cntDeadline] + 1
        else s.counters[cntDeadline]))
  ∧ ((∀ tile word seq index, o.op ≠ .read tile word (.fetch seq index)) →
      t.queries = s.queries ∧ t.sched.deadline = s.sched.deadline ∧ t.counters[cntDeadline] = s.counters[cntDeadline])

/-- What the issue of `o` does to the window reader: at a window READ the reader goes on to its next word or row, the
window-issued flag is set, and a promoted READ returns the window age to 0; no other issue changes them (R106, R121, R122,
R154). -/
def IssueMovesWindow (s t : State) (o : InFlight) : Prop :=
  (∀ tile word y k, o.op = .read tile word (.window y k) → t.sched.windowIssued = true
    ∧ t.sched.windowAge = (if s.settings.windowStarve ≤ s.sched.windowAge then 0 else s.sched.windowAge)
    ∧ ∃ w v, offeredWord s = some (w, y, k) ∧ t.window = some v ∧ WindowAdvanced s w y k v)
  ∧ ((∀ tile word y k, o.op ≠ .read tile word (.window y k)) →
      t.window = s.window ∧ t.sched.windowIssued = s.sched.windowIssued ∧ t.sched.windowAge = s.sched.windowAge)

/-- What the issue of the operation `o` at `s` does, up to `t`: `o` is in flight with its owner there, and beyond the effects
named nothing has changed (R105 to R107). -/
def IssueEffects (s t : State) (o : InFlight) : Prop :=
  o.discard = false ∧ o.afterReset = false ∧ IssuedFor s o ∧ IssueTouches s t o ∧ IssueCounted s t o
    ∧ IssueMovesFetch s t o ∧ IssueMovesWindow s t o
    ∧ t.port.state = s.port.state ∧ t.port.owed = s.port.owed ∧ t.port.refreshLeft = s.port.refreshLeft
    ∧ t.sched.baseMode = s.sched.baseMode ∧ Unchanged [.port, .sched, .queries, .window, .counters] s t

end Sys2Proof.Machine
end

