-- ==== Sys2Proof/Certificates/Slice0/Obligations.lean ====
section
/-! DEFINITION. The statements for the provers. The words of each stand in OBLIGATIONS.json. -/

open Sys2Proof Sys2Proof.Machine

/-! ### The step and the power-on reset -/

/-- The front command runs on the state with the queue's rest; with none waiting the part idles (the model's own queue,
log 8). -/
def Obligations.StepRunsFrontCommand : Prop :=
  ∀ s : State,
    (∀ c rest, s.pending = c :: rest → step s = exec c (s.setPending rest)) ∧ (s.pending = [] → step s = .next s)

/-- POWER_ON_RESET gives every block the values of its power-on rule; while the input stays asserted every other command
leaves the part as it is, and its release changes nothing but the input's level (R174). That the commands waiting outside
the part stay, and that commands sent meanwhile have no effect, is the model's (logs 4 and 8). -/
def Obligations.PowerOnResetGivesItsValuesAndHoldsThePart : Prop :=
  (∀ s : State, ∃ t : State, exec .powerOnReset s = .next t
      ∧ t.resetAsserted = true
      ∧ (∀ n : Fin 16, t.sheets[n] = none)
      ∧ (∀ i : Fin 2, t.ingest.slots[i] = .free) ∧ t.ingest.hold = false ∧ t.ingest.stray = 0
      ∧ t.drain.jobs = [] ∧ t.drain.queue = []
      ∧ t.time.machineTime = 0 ∧ t.time.ticks = 0 ∧ t.time.frame = 0 ∧ t.time.period = 10000 ∧ t.time.window = 2000
      ∧ t.time.urgencyPassed = false
      ∧ (∀ u : Fin 2, t.time.alarms[u] = { compare := 0, mask := 0, enabled := false, matching := true })
      ∧ (∀ n : Fin 6, (t.spindles[n]).state = .unbound ∧ (t.spindles[n]).active = Params.default
          ∧ (t.spindles[n]).staged = Params.default ∧ (t.spindles[n]).release = .none
          ∧ (t.spindles[n]).alarmFired = false ∧ (t.spindles[n]).correction = 0
          ∧ (t.spindles[n]).pendingCorrection = none ∧ (t.spindles[n]).resumePending = false ∧ (t.spindles[n]).held = 0)
      ∧ t.queries.records = [] ∧ t.queries.nextSeq = 0
      ∧ t.sched.baseMode = .readFirst ∧ t.sched.deadline = false ∧ t.sched.refreshing = false ∧ t.sched.windowAge = 0
      ∧ t.sched.windowIssued = false
      ∧ t.port.state = .init ∧ t.port.inFlight = none ∧ t.port.owed = 0 ∧ t.port.refreshLeft = none
      ∧ (∀ b : Fin 8, (t.port.banks[b]).row = none ∧ (t.port.banks[b]).timer = none
          ∧ (t.port.banks[b]).closeWanted = false)
      ∧ (∀ b : Fin 4, t.buffers[b] = none) ∧ t.window = none
      ∧ (∀ p : Port, linkOf t p = { up := false, idle := 0, bad := 0, toSend := [] }) ∧ t.cellQueue = []
      ∧ t.settings =
          { framePeriod := 10000, urgentWindow := 2000, drainHigh := 48, drainLow := 16, windowStarve := 8,
            rowCloseTime := 50, refreshInterval := 78, chunkCap := 256, chunkHold := 4, noticeInterval := 100,
            noticeEnables := 0, alwaysSend := false }
      ∧ t.notices.pending = 0 ∧ t.notices.interval = 0 ∧ (∀ k : Fin 28, t.counters[k] = 0)
      ∧ t.pending = s.pending)
  ∧ (∀ s : State,
      (s.resetAsserted = true → ∀ c : Instr, c ≠ .powerOnReset → c ≠ .powerOnResetRelease → exec c s = .next s)
      ∧ ∃ t, exec .powerOnResetRelease s = .next t ∧ t.resetAsserted = false ∧ Unchanged [.resetInput] s t)

/-! ### The cell request queue -/

/-- A good request joins the queue's end, or with four requests in it is answered REFUSED BUSY (R167). -/
def Obligations.ArrivingRequestJoinsTheQueueOrMeetsBusy : Prop :=
  ∀ (s : State) (tag : Tag) (r : CellRequest), Listening .c s →
    ∃ t, exec (.cellRequestArrives tag r) s = .next t
      ∧ (s.cellQueue.length < 4 → t.cellQueue = s.cellQueue ++ [⟨tag, r⟩] ∧ t.links = (afterGoodRecord .c s).links)
      ∧ (4 ≤ s.cellQueue.length → t.cellQueue = s.cellQueue
          ∧ t.links = repliedLinks ⟨tag, r⟩ (.refused .busy) .empty (afterGoodRecord .c s))
      ∧ Unchanged [.cellQueue, .links] s t

/-- Every request of the table is taken from the front, leaves the queue as it is carried out, and writes no word of the
attached memory (R167). The taking of one that is not at the front stops by name (the model's choice, log 1). -/
def Obligations.EveryRequestIsTakenFromTheFront : Prop :=
  (∀ (c : Instr) (q : Request) (rest : List Request) (s : State), c.request? = some q → AtFront q rest s →
      ∃ t, exec c s = .next t ∧ t.cellQueue = rest ∧ t.mem = s.mem ∧ t.pending = s.pending
        ∧ t.resetAsserted = false ∧ t.powerOns = s.powerOns)
  ∧ (∀ (c : Instr) (q : Request) (s : State), c.request? = some q → s.resetAsserted = false → s.cellQueue.head? ≠ some q →
      exec c s = .fault .requestNotAtFront)

/-! ### SET, GET and the reports -/

/-- A number SET to a global setting with fixed ends is stored, clamped to the nearer end where it lies outside, and
answered DONE or ADJUSTED with the stored value; every other setting keeps its value (R169). -/
def Obligations.SetStoresAGlobalNumber : Prop :=
  ∀ (s : State) (tag : Tag) (k : SettingName) (n lo hi : Int) (rest : List Request), settingRange k = some (lo, hi) →
    AtFront ⟨tag, .set (.setting k) 0 (.number n)⟩ rest s →
    ∃ t, exec (.set tag (.setting k) 0 (.number n)) s = .next t
      ∧ getSetting t.settings k = .number (max lo (min hi n))
      ∧ (∀ k', k' ≠ k → getSetting t.settings k' = getSetting s.settings k')
      ∧ Answered ⟨tag, .set (.setting k) 0 (.number n)⟩ (numberResult lo hi n) (numberBody lo hi n) rest
          (if k = .drainHigh then [.settings, .sched, .counters, .notices] else [.settings]) s t

/-- DRAIN_LOW is clamped to 0 and the stored DRAIN_HIGH − 8, CHUNK_CAP to 64 and 1,024 and then lowered to a multiple of 4;
NOTICE_ENABLES takes a set of the ten sources whole, ALWAYS_SEND OFF or ON, and anything else is refused BAD_VALUE (R110,
R155, R169, R176). -/
def Obligations.SetFitsTheSettingsOfTheirOwnForm : Prop :=
  ((∀ (s : State) (tag : Tag) (n : Int) (rest : List Request), 8 ≤ s.settings.drainHigh →
      AtFront ⟨tag, .set (.setting .drainLow) 0 (.number n)⟩ rest s →
      ∃ t, exec (.set tag (.setting .drainLow) 0 (.number n)) s = .next t
        ∧ t.settings = { s.settings with drainLow := (max 0 (min ((s.settings.drainHigh : Int) - 8) n)).toNat }
        ∧ Answered ⟨tag, .set (.setting .drainLow) 0 (.number n)⟩ (numberResult 0 (s.settings.drainHigh - 8) n)
            (numberBody 0 (s.settings.drainHigh - 8) n) rest [.settings, .sched, .counters, .notices] s t)
    ∧ (∀ (s : State) (tag : Tag) (n : Int) (rest : List Request),
      AtFront ⟨tag, .set (.setting .chunkCap) 0 (.number n)⟩ rest s →
      ∃ (t : State) (cap : Nat), exec (.set tag (.setting .chunkCap) 0 (.number n)) s = .next t
        ∧ t.settings = { s.settings with chunkCap := cap }
        ∧ cap % 4 = 0 ∧ (cap : Int) ≤ max 64 (min 1024 n) ∧ max 64 (min 1024 n) < cap + 4
        ∧ Answered ⟨tag, .set (.setting .chunkCap) 0 (.number n)⟩ (if cap = n then .done else .adjusted)
            (if cap = n then .empty else .value (.number cap)) rest [.settings] s t))
  ∧ (∀ (s : State) (tag : Tag) (v : Value) (rest : List Request),
      (AtFront ⟨tag, .set (.setting .noticeEnables) 0 v⟩ rest s →
        ∃ t, exec (.set tag (.setting .noticeEnables) 0 v) s = .next t
          ∧ (∀ x : SourceSet, v = .sources (x.setWidth 16) → t.settings = { s.settings with noticeEnables := x }
              ∧ Answered ⟨tag, .set (.setting .noticeEnables) 0 v⟩ .done .empty rest [.settings] s t)
          ∧ ((∀ x : SourceSet, v ≠ .sources (x.setWidth 16)) →
              Refused ⟨tag, .set (.setting .noticeEnables) 0 v⟩ .badValue rest s t))
      ∧ (AtFront ⟨tag, .set (.setting .alwaysSend) 0 v⟩ rest s →
        ∃ t, exec (.set tag (.setting .alwaysSend) 0 v) s = .next t
          ∧ (∀ b : Bool, v = .name (if b then .on else .off) → t.settings = { s.settings with alwaysSend := b }
              ∧ Answered ⟨tag, .set (.setting .alwaysSend) 0 v⟩ .done .empty rest [.settings] s t)
          ∧ (v ≠ .name .on → v ≠ .name .off → Refused ⟨tag, .set (.setting .alwaysSend) 0 v⟩ .badValue rest s t)))

/-- A SET of DRAIN_HIGH or DRAIN_LOW judges the base mode against the new marks at once (R109, R110). -/
def Obligations.SetOfADrainMarkJudgesTheBaseMode : Prop :=
  ∀ (s : State) (tag : Tag) (k : SettingName) (n : Int) (rest : List Request), k = .drainHigh ∨ k = .drainLow →
    AtFront ⟨tag, .set (.setting k) 0 (.number n)⟩ rest s →
    ∃ t, exec (.set tag (.setting k) 0 (.number n)) s = .next t
      ∧ (s.sched.baseMode = .readFirst → t.settings.drainHigh ≤ s.drain.queue.length →
          t.sched.baseMode = .writeFirst ∧ t.notices.pending = s.notices.pending ||| srcDrainPressure
          ∧ t.counters[cntWriteFirst] = s.counters[cntWriteFirst] + 1)
      ∧ (s.sched.baseMode = .readFirst → s.drain.queue.length < t.settings.drainHigh →
          t.sched = s.sched ∧ t.notices = s.notices ∧ t.counters = s.counters)
      ∧ (s.sched.baseMode = .writeFirst →
          (t.sched.baseMode = .readFirst ↔
            s.drain.queue.length ≤ min t.settings.drainLow (t.settings.drainHigh - 8))
          ∧ t.notices = s.notices ∧ t.counters = s.counters)

/-- A SET of a spindle parameter goes to the staged set of that spindle alone; the active set and the rest of the context
stay. A number is clamped to its range; SHEET takes 0 to 15 or NONE, a mirror OFF or ON, and any other value of these three
is refused BAD_VALUE with the staged value kept (R64, R169). -/
def Obligations.SetStagesASpindleParameter : Prop :=
  (∀ (s : State) (tag : Tag) (m : Fin 6) (k : ParamName) (n lo hi : Int) (rest : List Request),
      paramRange k = some (lo, hi) → AtFront ⟨tag, .set (.param k) (m + 1) (.number n)⟩ rest s →
      ∃ t, exec (.set tag (.param k) (m + 1) (.number n)) s = .next t
        ∧ getParam (t.spindles[m]).staged k = .number (max lo (min hi n))
        ∧ (∀ k', k' ≠ k → getParam (t.spindles[m]).staged k' = getParam (s.spindles[m]).staged k')
        ∧ t.spindles[m] = { s.spindles[m] with staged := (t.spindles[m]).staged }
        ∧ (∀ m' : Fin 6, m' ≠ m → t.spindles[m'] = s.spindles[m'])
        ∧ Answered ⟨tag, .set (.param k) (m + 1) (.number n)⟩ (numberResult lo hi n) (numberBody lo hi n) rest
            [.spindles] s t)
  ∧ (∀ (s : State) (tag : Tag) (m : Fin 6) (k : ParamName) (v : Value) (rest : List Request),
      k = .sheet ∨ k = .mirrorX ∨ k = .mirrorY → AtFront ⟨tag, .set (.param k) (m + 1) v⟩ rest s →
      ∃ t, exec (.set tag (.param k) (m + 1) v) s = .next t
        ∧ (if (k = .sheet ∧ (v = .name .none ∨ ∃ n : Nat, n ≤ 15 ∧ v = .number n))
              ∨ (k ≠ .sheet ∧ (v = .name .on ∨ v = .name .off))
            then getParam (t.spindles[m]).staged k = v
              ∧ (∀ k', k' ≠ k → getParam (t.spindles[m]).staged k' = getParam (s.spindles[m]).staged k')
              ∧ t.spindles[m] = { s.spindles[m] with staged := (t.spindles[m]).staged }
              ∧ (∀ m' : Fin 6, m' ≠ m → t.spindles[m'] = s.spindles[m'])
              ∧ Answered ⟨tag, .set (.param k) (m + 1) v⟩ .done .empty rest [.spindles] s t
            else Refused ⟨tag, .set (.param k) (m + 1) v⟩ .badValue rest s t))

/-- A name outside the settings table, a read-only item, or a spindle number that does not fit the name is refused
BAD_NAME, and a value of the wrong form for a number BAD_VALUE (R169). -/
def Obligations.SetRefusesBadNamesAndForms : Prop :=
  ∀ (s : State) (tag : Tag) (name : ItemName) (spindle : Nat) (v : Value) (rest : List Request),
    AtFront ⟨tag, .set name spindle v⟩ rest s →
    ((∃ x, name = .other x) ∨ (∃ x, name = .readOnly x) ∨ ((∃ k, name = .setting k) ∧ spindle ≠ 0)
        ∨ ((∃ k, name = .param k) ∧ ¬ (1 ≤ spindle ∧ spindle ≤ 6)) →
      ∃ t, exec (.set tag name spindle v) s = .next t ∧ Refused ⟨tag, .set name spindle v⟩ .badName rest s t)
    ∧ ((∀ n, v ≠ .number n) →
        ((∃ k, name = .setting k ∧ k ≠ .noticeEnables ∧ k ≠ .alwaysSend) ∧ spindle = 0)
          ∨ ((∃ k, name = .param k ∧ k ≠ .sheet ∧ k ≠ .mirrorX ∧ k ≠ .mirrorY) ∧ 1 ≤ spindle ∧ spindle ≤ 6) →
      ∃ t, exec (.set tag name spindle v) s = .next t ∧ Refused ⟨tag, .set name spindle v⟩ .badValue rest s t)

/-- GET returns a value as stored or refuses, and changes nothing (R170). A setting and a spindle parameter are given as the
number, the name or the source set they hold; the seven read-only items give the state, c, the pending correction or NONE,
the held depth, the release condition and the two flags of the context (R65). -/
def Obligations.GetReturnsWhatIsStored : Prop :=
  (∀ st : Settings, getSetting st .framePeriod = .number st.framePeriod
      ∧ getSetting st .urgentWindow = .number st.urgentWindow ∧ getSetting st .drainHigh = .number st.drainHigh
      ∧ getSetting st .drainLow = .number st.drainLow ∧ getSetting st .windowStarve = .number st.windowStarve
      ∧ getSetting st .rowCloseTime = .number st.rowCloseTime
      ∧ getSetting st .refreshInterval = .number st.refreshInterval ∧ getSetting st .chunkCap = .number st.chunkCap
      ∧ getSetting st .chunkHold = .number st.chunkHold ∧ getSetting st .noticeInterval = .number st.noticeInterval
      ∧ (∃ x, getSetting st .noticeEnables = .sources x ∧ ∀ k, x.getLsbD k = st.noticeEnables.getLsbD k)
      ∧ getSetting st .alwaysSend = .name (if st.alwaysSend = true then .on else .off))
  ∧ (∀ p : Params, getParam p .originX = .number p.originX ∧ getParam p .originY = .number p.originY
      ∧ getParam p .ratio = .number p.ratio ∧ getParam p .passFloor = .number p.passFloor
      ∧ getParam p .allowance = .number p.allowance ∧ getParam p .plungeLimit = .number p.plungeLimit
      ∧ getParam p .vFactor = .number p.vFactor ∧ getParam p .toolNominal = .number p.toolNominal
      ∧ getParam p .touchLimit = .number p.touchLimit
      ∧ getParam p .mirrorX = .name (if p.mirrorX = true then .on else .off)
      ∧ getParam p .mirrorY = .name (if p.mirrorY = true then .on else .off)
      ∧ getParam p .sheet = (match p.sheet with
          | some n => .number n
          | none => .name .none))
  ∧ (∀ c : Context,
      getReadOnly c .spindleState = .name (match c.state with
        | .unbound => .unbound
        | .bound => .bound
        | .retracted => .retracted)
      ∧ getReadOnly c .correction = .number c.correction
      ∧ getReadOnly c .pendingCorrection = (match c.pendingCorrection with
          | some n => .number n
          | none => .name .none)
      ∧ getReadOnly c .heldDepth = .number c.held
      ∧ getReadOnly c .releaseCondition = .name (match c.release with
          | .none => .none
          | .nextMark => .nextMark
          | .afterAlarm0 => .afterAlarm0
          | .afterAlarm1 => .afterAlarm1)
      ∧ getReadOnly c .alarmFired = .name (if c.alarmFired = true then .set else .clear)
      ∧ getReadOnly c .resumePending = .name (if c.resumePending = true then .set else .clear))
  ∧ ∀ (s : State) (tag : Tag) (name : ItemName) (spindle selector : Nat) (rest : List Request),
    AtFront ⟨tag, .get name spindle selector⟩ rest s →
    ∃ t, exec (.get tag name spindle selector) s = .next t
      ∧ (∀ k, name = .setting k → spindle = 0 →
          Answered ⟨tag, .get name spindle selector⟩ .done (.value (getSetting s.settings k)) rest [] s t)
      ∧ (∀ k (m : Fin 6), name = .param k → spindle = m + 1 →
          (selector = 1 → Answered ⟨tag, .get name spindle selector⟩ .done
            (.value (getParam (s.spindles[m]).active k)) rest [] s t)
          ∧ (selector = 2 → Answered ⟨tag, .get name spindle selector⟩ .done
            (.value (getParam (s.spindles[m]).staged k)) rest [] s t)
          ∧ (selector ≠ 1 → selector ≠ 2 → Refused ⟨tag, .get name spindle selector⟩ .badValue rest s t))
      ∧ (∀ k (m : Fin 6), name = .readOnly k → spindle = m + 1 →
          Answered ⟨tag, .get name spindle selector⟩ .done (.value (getReadOnly s.spindles[m] k)) rest [] s t)
      ∧ (((∃ x, name = .other x) ∨ ((∃ k, name = .setting k) ∧ spindle ≠ 0)
            ∨ (((∃ k, name = .param k) ∨ ∃ k, name = .readOnly k) ∧ ¬ (1 ≤ spindle ∧ spindle ≤ 6))) →
          Refused ⟨tag, .get name spindle selector⟩ .badName rest s t)

/-- STATUS_READ, SHEET_STATUS and COUNTERS_READ are answered at once with what stands when they are taken, and change
nothing. STATUS_READ gives every item of its table: each job in list order with its kind, sheet, entries made and buffer,
each slot with its state and, where it is not FREE, its sheet, row and received count. SHEET_STATUS gives the sheet's
fields, the fill progress of a LETTER sheet (the fill job's next word, or the whole extent × 256 once no fill job is in the
list) and the work on it; a number above 15 is refused BAD_VALUE (R6, R19, R23, R36, R171, R180). -/
def Obligations.ReportsGiveWhatStandsAndChangeNothing : Prop :=
  ∀ (s : State) (tag : Tag) (rest : List Request),
    (AtFront ⟨tag, .statusRead⟩ rest s → ∃ (t : State) (r : StatusReport), exec (.statusRead tag) s = .next t
      ∧ Answered ⟨tag, .statusRead⟩ .done (.status r) rest [] s t
      ∧ r.memory = s.port.state ∧ r.owed = s.port.owed
      ∧ r.mode = (if s.sched.deadline then .deadline else if s.sched.baseMode = .readFirst then .readFirst
          else .writeFirst)
      ∧ r.baseMode = s.sched.baseMode ∧ r.deadline = s.sched.deadline ∧ r.refreshing = s.sched.refreshing
      ∧ r.windowAge = s.sched.windowAge ∧ r.occupancy = s.drain.queue.length ∧ List.Forall₂ JobReported s.drain.jobs r.jobs
      ∧ r.slots.length = 2 ∧ (∀ i : Fin 2, ∃ x, r.slots[i.val]? = some x ∧ SlotReported s.ingest.slots[i] x)
      ∧ r.hold = s.ingest.hold ∧ r.stray = s.ingest.stray ∧ r.queued = rest.length ∧ r.frame = s.time.frame
      ∧ r.machineTime = s.time.machineTime
      ∧ (∀ n : Fin 6, r.queries[n.val]? = some (s.queries.records.countP (fun x => x.spindle == n)))
      ∧ (∀ p : Port, r.links[(portIndex p).val]? = some (portUp s p)))
    ∧ (∀ n : Nat, AtFront ⟨tag, .sheetStatus n⟩ rest s → ∃ t, exec (.sheetStatus tag n) s = .next t
      ∧ (15 < n → Refused ⟨tag, .sheetStatus n⟩ .badValue rest s t)
      ∧ (n ≤ 15 → sheetAt s n = none → Answered ⟨tag, .sheetStatus n⟩ .done (.sheet none) rest [] s t)
      ∧ (∀ x, sheetAt s n = some x → ∃ r : SheetReport,
          Answered ⟨tag, .sheetStatus n⟩ .done (.sheet (some r)) rest [] s t
          ∧ r.state = x.state ∧ r.kind = x.kind ∧ r.geom = x.geom
          ∧ r.extent = (x.geom.width / 32) * (x.geom.height / 32)
          ∧ (∀ rel, x.kind = .relief rel → r.fillProgress = none)
          ∧ (∀ f, x.kind = .letter f →
              (∀ before after k, s.drain.jobs = before ++ .fill n k :: after → (∀ k', Job.fill n k' ∉ before) →
                r.fillProgress = some k)
              ∧ ((∀ k, Job.fill n k ∉ s.drain.jobs) →
                r.fillProgress = some ((x.geom.width / 32) * (x.geom.height / 32) * 256)))
          ∧ r.voidCount = x.voidCount ∧ r.heldCount = x.heldCount
          ∧ r.jobs = (s.drain.jobs.filter (fun j => j.sheetOf == n)).length
          ∧ r.entries = (s.drain.queue.filter (fun e => e.sheet == n)).length
          ∧ r.queries = s.queries.records.countP (fun q => q.sheet == n)
          ∧ (r.windowReading = true ↔ ∃ w, s.window = some w ∧ w.sheet = n)
          ∧ r.readyWaiting = x.readyWaiting.isSome ∧ r.closeWaiting = x.closeWaiting.isSome))
    ∧ (AtFront ⟨tag, .countersRead⟩ rest s → ∃ t, exec (.countersRead tag) s = .next t
      ∧ Answered ⟨tag, .countersRead⟩ .done (.counters s.counters.toList) rest [] s t)

/-! ### Sheets -/

/-- SHEET_OPEN is checked in the order of R10, the first check that fails refuses it, and a refused open changes no
state. The hypotheses of each clause say that the checks before it pass. -/
def Obligations.SheetOpenIsRefusedByTheFirstCheckThatFails : Prop :=
  ∀ (s : State) (tag : Tag) (n k w h p q b hr po f : Nat) (rest : List Request),
    AtFront ⟨tag, .sheetOpen n k w h p q b hr po f⟩ rest s →
    ∃ t, exec (.sheetOpen tag n k w h p q b hr po f) s = .next t
      ∧ (15 < n → Refused ⟨tag, .sheetOpen n k w h p q b hr po f⟩ .badValue rest s t)
      ∧ (n ≤ 15 → sheetAt s n ≠ none → Refused ⟨tag, .sheetOpen n k w h p q b hr po f⟩ .wrongState rest s t)
      ∧ (n ≤ 15 → sheetAt s n = none → ¬ OpenFieldsLawful k w h p q hr po f →
          Refused ⟨tag, .sheetOpen n k w h p q b hr po f⟩ .badValue rest s t)
      ∧ (n ≤ 15 → sheetAt s n = none → OpenFieldsLawful k w h p q hr po f →
          131072 < b + (w / 32) * (h / 32) → Refused ⟨tag, .sheetOpen n k w h p q b hr po f⟩ .noRoom rest s t)
      ∧ (n ≤ 15 → sheetAt s n = none → OpenFieldsLawful k w h p q hr po f →
          b + (w / 32) * (h / 32) ≤ 131072 → ExtentTaken s b ((w / 32) * (h / 32)) →
          Refused ⟨tag, .sheetOpen n k w h p q b hr po f⟩ .overlap rest s t)
      ∧ (n ≤ 15 → sheetAt s n = none → OpenFieldsLawful k w h p q hr po f →
          b + (w / 32) * (h / 32) ≤ 131072 → ¬ ExtentTaken s b ((w / 32) * (h / 32)) → k = 1 →
          (∃ m next, Job.fill m next ∈ s.drain.jobs) →
          Refused ⟨tag, .sheetOpen n k w h p q b hr po f⟩ .busy rest s t)

/-- An open that passes every check makes a RELIEF sheet SCANNING with no row accepted or written, or a LETTER sheet
FILLING with its fill job at the end of the list; no other sheet changes and no word of memory is written (R12, R13). -/
def Obligations.SheetOpenOpensTheSheetAskedFor : Prop :=
  ∀ (s : State) (tag : Tag) (n k w h p q b hr po f : Nat) (rest : List Request),
    AtFront ⟨tag, .sheetOpen n k w h p q b hr po f⟩ rest s →
    n ≤ 15 → sheetAt s n = none → OpenFieldsLawful k w h p q hr po f → b + (w / 32) * (h / 32) ≤ 131072 →
    ¬ ExtentTaken s b ((w / 32) * (h / 32)) → (k = 1 → ∀ m next, Job.fill m next ∉ s.drain.jobs) →
    ∃ (t : State) (x : Sheet), exec (.sheetOpen tag n k w h p q b hr po f) s = .next t
      ∧ sheetAt t n = some x ∧ (∀ m, m ≠ n → sheetAt t m = sheetAt s m)
      ∧ x.geom = { width := w, height := h, pitch := p, quantum := q, base := b }
      ∧ x.voidCount = 0 ∧ x.heldCount = 0 ∧ x.readyWaiting = none ∧ x.closeWaiting = none
      ∧ (k = 0 → x.state = .scanning
          ∧ x.kind = .relief { href := hr, policy := if po = 0 then .void else .hold, accepted := 0, written := 0 }
          ∧ Answered ⟨tag, .sheetOpen n k w h p q b hr po f⟩ .done .empty rest [.sheets] s t)
      ∧ (k = 1 → x.state = .filling ∧ x.kind = .letter f
          ∧ t.drain = { s.drain with jobs := s.drain.jobs ++ [.fill n 0] }
          ∧ Answered ⟨tag, .sheetOpen n k w h p q b hr po f⟩ .done .empty rest [.sheets, .drain] s t)

/-- SHEET_READY by the state of its sheet: refused, answered DONE, or waiting until the sheet is LOADING with no job and
no entry (R16). -/
def Obligations.SheetReadyIsAnsweredByTheSheetState : Prop :=
  ∀ (s : State) (tag : Tag) (n : Nat) (rest : List Request), AtFront ⟨tag, .sheetReady n⟩ rest s →
    ∃ t, exec (.sheetReady tag n) s = .next t
      ∧ (15 < n → Refused ⟨tag, .sheetReady n⟩ .badValue rest s t)
      ∧ (n ≤ 15 → sheetAt s n = none → Refused ⟨tag, .sheetReady n⟩ .noSheet rest s t)
      ∧ (∀ x, sheetAt s n = some x →
          (x.state = .retiring → Refused ⟨tag, .sheetReady n⟩ .noSheet rest s t)
          ∧ (x.state = .scanning → Refused ⟨tag, .sheetReady n⟩ .wrongState rest s t)
          ∧ (x.state = .ready → Answered ⟨tag, .sheetReady n⟩ .done .empty rest [] s t)
          ∧ (x.state = .filling ∨ x.state = .loading → x.readyWaiting ≠ none →
              Refused ⟨tag, .sheetReady n⟩ .busy rest s t)
          ∧ (x.state = .filling ∨ x.state = .loading → x.readyWaiting = none →
              (∀ m, m ≠ n → sheetAt t m = sheetAt s m)
              ∧ (if x.state = .loading ∧ (∀ j ∈ s.drain.jobs, j.sheetOf ≠ n) ∧ (∀ e ∈ s.drain.queue, e.sheet ≠ n)
                then sheetAt t n = some { x with state := .ready, readyWaiting := none }
                  ∧ Answered ⟨tag, .sheetReady n⟩ .done .empty rest [.sheets] s t
                else sheetAt t n = some { x with readyWaiting := some tag } ∧ t.cellQueue = rest
                  ∧ Unchanged [.sheets, .cellQueue] s t)))

/-- A taken SHEET_CLOSE ends all work of its sheet at once. Its queries leave the table, each answered HELD_NO_SHEET with
the cut of R83, oldest first, and counted; its jobs leave the list, and their slots and buffers become FREE; its entries
leave the queue, and the base mode is judged; its FILLING sweep is rewound CLOSED with a SWEEP_RESULT and a count but no
notice; its window read and its waiting SHEET_READY end, each answered REFUSED NO_SHEET before the close's own answer. The
other work stays, in its order. The sheet is FREE with the close answered DONE, or RETIRING with the close waiting while an
operation for it is in flight. A close of a number outside 0 to 15, of a FREE sheet or of a RETIRING one is refused (R6,
R17, R18, R32, R102, R109, R159, R179). That an operation whose owner has already left is still in flight for its sheet is
the model's reading (log 11). -/
def Obligations.SheetCloseEndsTheWorkOfTheSheet : Prop :=
  (∀ (s : State) (tag : Tag) (n : Nat) (x : Sheet) (rest : List Request), AtFront ⟨tag, .sheetClose n⟩ rest s →
      sheetAt s n = some x → x.state ≠ .retiring →
      let mine (m : Fin 6) := s.queries.records.filter (fun r => r.spindle == m && r.sheet == n)
      let windowAnswer : List OutRecord := match s.window with
        | some w => if w.sheet = n then [.cellReply w.tag 9 (.refused .noSheet) .empty] else []
        | none => []
      let readyAnswer : List OutRecord := match x.readyWaiting with
        | some r => [.cellReply r 5 (.refused .noSheet) .empty]
        | none => []
      ∃ t, exec (.sheetClose tag n) s = .next t
        ∧ t.drain.jobs = s.drain.jobs.filter (fun j => j.sheetOf != n)
        ∧ t.drain.queue = s.drain.queue.filter (fun e => e.sheet != n)
        ∧ t.queries.records = s.queries.records.filter (fun r => r.sheet != n)
        ∧ t.window = (match s.window with
            | some w => if w.sheet = n then none else some w
            | none => none)
        ∧ (∀ m, m ≠ n → sheetAt t m = sheetAt s m)
        ∧ RepliesCounted 0 0 0 0 (s.queries.records.countP (fun r => r.sheet == n)) s t
        ∧ (∀ m : Fin 6, t.spindles[m] = { s.spindles[m] with held := heldAfter (s.spindles[m]).held (mine m) }
            ∧ (portUp s (.s m) = true → (linkOf t (.s m)).toSend = (linkOf s (.s m)).toSend
                ++ heldReplies .heldNoSheet s.time.frame (s.spindles[m]).held (mine m)))
        ∧ (∀ i : Fin 2,
            ((∃ y k, Job.sweep i n y k ∈ s.drain.jobs) → t.ingest.slots[i] = .free)
            ∧ ((∀ y k, Job.sweep i n y k ∉ s.drain.jobs) → (∀ w, s.ingest.slots[i] = .filling w → w.sheet ≠ n) →
                t.ingest.slots[i] = s.ingest.slots[i])
            ∧ (∀ w, fillingSweep s = some (i, w) → w.sheet = n → (∀ y k, Job.sweep i n y k ∉ s.drain.jobs) →
                t.ingest.slots[i] = .free ∧ t.counters[cntSweepsRewound] = s.counters[cntSweepsRewound] + 1
                ∧ (portUp s .t = true → (linkOf t .t).toSend = (linkOf s .t).toSend
                    ++ [.sweepResult w.tag .rewound w.row .closed])))
        ∧ t.notices.pending.getLsbD 1 = s.notices.pending.getLsbD 1
        ∧ (∀ b : Fin 4, t.buffers[b] =
            if s.drain.jobs.any (fun j => j.buffer? == some b && j.sheetOf == n) then none else s.buffers[b])
        ∧ BaseModeJudged s t
        ∧ (portUp s .c = true → (linkOf t .c).toSend = (linkOf s .c).toSend ++ windowAnswer ++ readyAnswer
            ++ (if inFlightFor s n then [] else [.cellReply tag 6 .done .empty]))
        ∧ (inFlightFor s n = false → sheetAt t n = none)
        ∧ (inFlightFor s n = true → (∃ o, t.port.inFlight = some o ∧ o.sheet = some n ∧ o.discard = true)
            ∧ ∃ y, sheetAt t n = some y ∧ y.state = .retiring ∧ y.closeWaiting = some tag ∧ y.kind = x.kind
              ∧ y.geom = x.geom)
        ∧ t.cellQueue = rest ∧ t.mem = s.mem ∧ t.time = s.time ∧ t.settings = s.settings)
  ∧ (∀ (s : State) (tag : Tag) (n : Nat) (rest : List Request), AtFront ⟨tag, .sheetClose n⟩ rest s →
      ∃ t, exec (.sheetClose tag n) s = .next t
        ∧ (15 < n → Refused ⟨tag, .sheetClose n⟩ .badValue rest s t)
        ∧ (n ≤ 15 → sheetAt s n = none → Refused ⟨tag, .sheetClose n⟩ .noSheet rest s t)
        ∧ (∀ x, sheetAt s n = some x → x.state = .retiring → Refused ⟨tag, .sheetClose n⟩ .wrongState rest s t))

/-! ### Block loads and window readback -/

/-- LOAD_BLOCK is checked in order; an accepted one fills the lowest FREE buffer with its codes, adds its load job at the
end of the list and is answered ACCEPTED (R148, R149). -/
def Obligations.LoadBlockIsAcceptedOrRefused : Prop :=
  ∀ (s : State) (tag : Tag) (n x y w h : Nat) (codes : List Code) (rest : List Request),
    AtFront ⟨tag, .loadBlock n x y w h codes⟩ rest s →
    ∃ t, exec (.loadBlock tag n x y w h codes) s = .next t
      ∧ (15 < n → Refused ⟨tag, .loadBlock n x y w h codes⟩ .badValue rest s t)
      ∧ (n ≤ 15 → (∀ sh, sheetAt s n = some sh → sh.state ≠ .filling ∧ sh.state ≠ .loading) →
          Refused ⟨tag, .loadBlock n x y w h codes⟩ .wrongState rest s t)
      ∧ (∀ sh, sheetAt s n = some sh → sh.state = .filling ∨ sh.state = .loading →
          let lawful := 0 < w ∧ 0 < h ∧ w * h ≤ 1024 ∧ codes.length = w * h ∧ x + w ≤ sh.geom.width
            ∧ y + h ≤ sh.geom.height
          (¬ lawful → Refused ⟨tag, .loadBlock n x y w h codes⟩ .badValue rest s t)
          ∧ (lawful → (∀ b : Fin 4, s.buffers[b] ≠ none) → Refused ⟨tag, .loadBlock n x y w h codes⟩ .busy rest s t)
          ∧ (lawful → ∀ b : Fin 4, s.buffers[b] = none → (∀ a : Fin 4, a < b → s.buffers[a] ≠ none) →
              t.buffers = s.buffers.set b (some codes)
              ∧ t.drain = { s.drain with jobs := s.drain.jobs ++ [.load b n x y w h 0] }
              ∧ Answered ⟨tag, .loadBlock n x y w h codes⟩ .accepted .empty rest [.buffers, .drain] s t))

/-- READ_WINDOW is checked in order and a refused one changes no state. One that passes with a readable first row starts at
chunk index 0 with nothing placed and, while the port is starting up or busy, offers the row from its first covered word and
leaves the port as it is. A window whose rows all lie beyond the frontier is VOID: one of at most CHUNK_CAP samples ends at
once, with one chunk of VOID codes and then DONE with the total; of a larger one the first CHUNK_CAP codes go out as a
chunk, which holds up the rest. No word of such a window is offered. That all its rows are taken up at once is the model's
reading (log 12). Either way the choice is made from what the window offers (R105, R153, R154, R155, R157). -/
def Obligations.ReadWindowStartsOrIsRefused : Prop :=
  (∀ (s : State) (tag : Tag) (n x y w h : Nat) (sh : Sheet) (rest : List Request),
      AtFront ⟨tag, .readWindow n x y w h⟩ rest s → s.window = none → sheetAt s n = some sh →
      0 < w → 0 < h → w * h ≤ 65536 → x + w ≤ sh.geom.width → y + h ≤ sh.geom.height →
      (sh.state = .ready ∨ ∃ r, sh.state = .scanning ∧ sh.kind = .relief r ∧ y < r.written) →
      ∃ (t : State) (v : WindowRead), exec (.readWindow tag n x y w h) s = .next t ∧ t.window = some v
        ∧ v.tag = tag ∧ v.sheet = n ∧ v.column = x ∧ v.row = y ∧ v.width = w ∧ v.height = h
        ∧ v.placed = 0 ∧ v.chunk = [] ∧ v.nextIndex = 0 ∧ v.hold = 0 ∧ v.waiting = 0
        ∧ (s.port.state = .init ∨ s.port.inFlight ≠ none → v.cursor = some (y, x / 4) ∧ t.port = s.port)
        ∧ (∃ (u : State) (offer : WindowRead), t = choose u ∧ Unchanged [.window, .cellQueue] s u
            ∧ u.window = some offer ∧ offer.cursor = some (y, x / 4) ∧ offeredWord u = some (offer, y, x / 4)
            ∧ v = { offer with cursor := v.cursor, voids := v.voids })
        ∧ t.cellQueue = rest ∧ Unchanged [.window, .cellQueue, .port, .sched, .queries, .counters] s t)
  ∧ (∀ (s : State) (tag : Tag) (n x y w h : Nat) (rest : List Request), AtFront ⟨tag, .readWindow n x y w h⟩ rest s →
      ∃ t, exec (.readWindow tag n x y w h) s = .next t
        ∧ (15 < n → Refused ⟨tag, .readWindow n x y w h⟩ .badValue rest s t)
        ∧ (n ≤ 15 → s.window ≠ none → Refused ⟨tag, .readWindow n x y w h⟩ .busy rest s t)
        ∧ (n ≤ 15 → s.window = none → (∀ sh, sheetAt s n = some sh → sh.state ≠ .scanning ∧ sh.state ≠ .ready) →
            Refused ⟨tag, .readWindow n x y w h⟩ .wrongState rest s t)
        ∧ (s.window = none → ∀ sh, sheetAt s n = some sh → sh.state = .scanning ∨ sh.state = .ready →
            ¬ (0 < w ∧ 0 < h ∧ w * h ≤ 65536 ∧ x + w ≤ sh.geom.width ∧ y + h ≤ sh.geom.height) →
            Refused ⟨tag, .readWindow n x y w h⟩ .badValue rest s t))
  ∧ (∀ (s : State) (tag : Tag) (n x y w h : Nat) (sh : Sheet) (r : Relief) (rest : List Request),
      AtFront ⟨tag, .readWindow n x y w h⟩ rest s → s.window = none → windowReadInFlight s = false →
      sheetAt s n = some sh → sh.state = .scanning → sh.kind = .relief r → r.written ≤ y →
      0 < w → 0 < h → w * h ≤ 65536 → x + w ≤ sh.geom.width → y + h ≤ sh.geom.height →
      0 < s.settings.chunkCap → portUp s .c = true →
      ∃ t, exec (.readWindow tag n x y w h) s = .next t
        ∧ (w * h ≤ s.settings.chunkCap → t.window = none
          ∧ (linkOf t .c).toSend = (linkOf s .c).toSend
            ++ [.windowChunk tag 0 (List.replicate (w * h) 65535), .cellReply tag 9 .done (.total (w * h))])
        ∧ (s.settings.chunkCap < w * h →
          (∃ v, t.window = some v ∧ v.cursor = none ∧ v.placed = s.settings.chunkCap ∧ v.chunk = [] ∧ v.nextIndex = 1
            ∧ v.voids = w * h - s.settings.chunkCap ∧ v.waiting = 1 ∧ v.sheet = n ∧ v.tag = tag)
          ∧ (linkOf t .c).toSend = (linkOf s .c).toSend
            ++ [.windowChunk tag 0 (List.replicate s.settings.chunkCap 65535)])
        ∧ (∃ u, t = choose u ∧ u.window = t.window ∧ Unchanged [.window, .cellQueue, .links] s u)
        ∧ t.cellQueue = rest ∧ Unchanged [.window, .cellQueue, .links, .port, .sched, .queries, .counters] s t)

/-- WINDOW_CANCEL ends the window: its samples not sent are dropped, READ_WINDOW is answered CANCELLED and then the
cancel DONE; with no window it is refused WRONG_STATE (R158). -/
def Obligations.WindowCancelEndsTheWindow : Prop :=
  ∀ (s : State) (tag : Tag) (rest : List Request), AtFront ⟨tag, .windowCancel⟩ rest s →
    ∃ t, exec (.windowCancel tag) s = .next t
      ∧ (s.window = none → Refused ⟨tag, .windowCancel⟩ .wrongState rest s t)
      ∧ (∀ w, s.window = some w → t.window = none ∧ t.cellQueue = rest
          ∧ (portUp s .c = true → (linkOf t .c).toSend = (linkOf s .c).toSend
              ++ [.cellReply w.tag 9 .cancelled .empty, .cellReply tag 10 .done .empty])
          ∧ (∀ o, s.port.inFlight = some o → (∃ tile word y k, o.op = .read tile word (.window y k)) →
              t.port.inFlight = some { o with discard := true })
          ∧ Unchanged [.window, .cellQueue, .links, .port] s t)

/-- A chunk sent in full leaves Port C. At most the chunks that are left on the port then wait for the window, since the
oldest may be an earlier window's (the model's reading, log 25). With none waiting the reader offers its word again, with
one waiting it offers none, and the choice is made from what it offers. VOID codes left to place stay while a chunk waits or
a window READ is in flight, and otherwise their placing goes on, up to the next chunk or the end of the window. With no
chunk on the port the command stops by name (R105, R154; the stop and the records ahead of the chunk are the model's, logs 1
and 7). -/
def Obligations.ChunkSentInFullLetsTheReaderGoOn : Prop :=
  ∀ s : State, s.resetAsserted = false →
    (∀ (before after : List OutRecord) (tag : Tag) (index : Nat) (codes : List Code),
      (linkOf s .c).toSend = before ++ .windowChunk tag index codes :: after →
      before.all (fun r => !r.isChunk) = true →
      ∃ t, exec .windowChunkSent s = .next t
        ∧ (∀ w, s.window = some w → w.voids = 0 → (linkOf t .c).toSend = after
            ∧ ∃ v, t.window = some v ∧ v.waiting = min w.waiting (after.countP OutRecord.isChunk)
              ∧ v.tag = w.tag ∧ v.placed = w.placed ∧ v.chunk = w.chunk ∧ v.nextIndex = w.nextIndex)
        ∧ (∀ w, s.window = some w → w.voids = 0 → ∃ u, t = choose u ∧ Unchanged [.links, .window] s u
            ∧ u.window = some { w with waiting := min w.waiting (after.countP OutRecord.isChunk) }
            ∧ (∀ y k, w.cursor = some (y, k) →
                (after.countP OutRecord.isChunk = 0 → offeredWord u = some ({ w with waiting := 0 }, y, k))
                ∧ (w.waiting ≠ 0 → after.countP OutRecord.isChunk ≠ 0 → offeredWord u = none)))
        ∧ (∀ w, s.window = some w → ∃ (u : State) (sent : List OutRecord), t = choose u ∧ Unchanged [.links, .window] s u
            ∧ (linkOf u .c).toSend = after ++ sent ∧ (∀ p, p ≠ .c → linkOf u p = linkOf s p) ∧ portUp u .c = portUp s .c
            ∧ (w.voids = 0 ∨ (w.waiting ≠ 0 ∧ after.countP OutRecord.isChunk ≠ 0) ∨ WindowReadUnderWay s → sent = []
              ∧ u.window = some { w with waiting := min w.waiting (after.countP OutRecord.isChunk) })
            ∧ (w.waiting = 0 ∨ after.countP OutRecord.isChunk = 0 → ¬ WindowReadUnderWay s → portUp s .c = true →
                w.chunk.length < (if w.chunk = [] then s.settings.chunkCap else w.cap) →
                w.placed + w.voids ≤ w.width * w.height →
                VoidsPlaced s.settings.chunkCap { w with waiting := 0 } u.window sent))
        ∧ (s.window = none → (linkOf t .c).toSend = after ∧ t.window = none)
        ∧ Unchanged [.links, .window, .port, .sched, .queries, .counters] s t)
    ∧ ((linkOf s .c).toSend.all (fun r => !r.isChunk) = true → exec .windowChunkSent s = .fault .noChunkWaiting)

/-! ### Tracer ingest and drain -/

/-- INGEST_HOLD sets the hold flag, rewinds a FILLING sweep HELD and is answered DONE; INGEST_RELEASE clears the flag
whether it was set or not. CLOSED and DRAINING slots stay (R32, R34). -/
def Obligations.IngestHoldAndReleaseGovernTheHoldFlag : Prop :=
  ∀ (s : State) (tag : Tag) (rest : List Request),
    (AtFront ⟨tag, .ingestHold⟩ rest s → ∃ t, exec (.ingestHold tag) s = .next t
      ∧ t.ingest.hold = true ∧ t.ingest.stray = s.ingest.stray ∧ t.cellQueue = rest
      ∧ (fillingSweep s = none → t.ingest.slots = s.ingest.slots
          ∧ Answered ⟨tag, .ingestHold⟩ .done .empty rest [.ingest] s t)
      ∧ (∀ i w, fillingSweep s = some (i, w) → t.ingest.slots = s.ingest.slots.set i .free
          ∧ t.notices.pending = s.notices.pending ||| srcSweepRewound
          ∧ t.counters = s.counters.set cntSweepsRewound (s.counters[cntSweepsRewound] + 1)
          ∧ (portUp s .t = true → (linkOf t .t).toSend = (linkOf s .t).toSend ++ [.sweepResult w.tag .rewound w.row .held])
          ∧ (portUp s .c = true → (linkOf t .c).toSend = (linkOf s .c).toSend ++ [.cellReply tag 11 .done .empty])
          ∧ Unchanged [.ingest, .notices, .counters, .links, .cellQueue] s t))
    ∧ (AtFront ⟨tag, .ingestRelease⟩ rest s → ∃ t, exec (.ingestRelease tag) s = .next t
      ∧ t.ingest = { s.ingest with hold := false } ∧ Answered ⟨tag, .ingestRelease⟩ .done .empty rest [.ingest] s t)

/-- INGEST_FLUSH rewinds the FILLING sweep FLUSHED, with its SWEEP_RESULT, its notice and its count, drops every sweep job
not begun with its slot, keeps the other jobs and slots, and sets rows accepted of each SCANNING sheet to rows written plus
its rows still on their way (R32, R35). -/
def Obligations.IngestFlushDropsTheSweepJobsNotBegun : Prop :=
  ∀ (s : State) (tag : Tag) (rest : List Request), AtFront ⟨tag, .ingestFlush⟩ rest s →
    ∃ t, exec (.ingestFlush tag) s = .next t
      ∧ t.drain.jobs = s.drain.jobs.filter (fun j => !j.unstartedSweep) ∧ t.drain.queue = s.drain.queue
      ∧ (∀ i n y, Job.sweep i n y 0 ∈ s.drain.jobs → t.ingest.slots[i] = .free)
      ∧ (∀ i w, fillingSweep s = some (i, w) → t.ingest.slots[i] = .free
          ∧ t.notices.pending = s.notices.pending ||| srcSweepRewound
          ∧ t.counters = s.counters.set cntSweepsRewound (s.counters[cntSweepsRewound] + 1)
          ∧ (portUp s .t = true → (linkOf t .t).toSend = (linkOf s .t).toSend
              ++ [.sweepResult w.tag .rewound w.row .flushed]))
      ∧ (fillingSweep s = none → t.notices = s.notices ∧ t.counters = s.counters ∧ linkOf t .t = linkOf s .t)
      ∧ (∀ i : Fin 2, (∀ n y, Job.sweep i n y 0 ∉ s.drain.jobs) → (∀ w, s.ingest.slots[i] ≠ .filling w) →
          t.ingest.slots[i] = s.ingest.slots[i])
      ∧ t.ingest.hold = s.ingest.hold
      ∧ (∀ n x r, sheetAt s n = some x → x.state = .scanning → x.kind = .relief r →
          sheetAt t n = some { x with kind := .relief { r with accepted := r.written
            + (t.drain.jobs.filter (fun j => match j with
                | .sweep _ m _ _ => m == n
                | _ => false)).length
            + (t.drain.queue.filter (fun e => e.sheet == n && e.endOfRow.isSome)).length } })
      ∧ (∀ n, (∀ x r, sheetAt s n = some x → x.state = .scanning → x.kind ≠ .relief r) → sheetAt t n = sheetAt s n)
      ∧ (portUp s .c = true → (linkOf t .c).toSend = (linkOf s .c).toSend ++ [.cellReply tag 13 .done .empty])
      ∧ t.cellQueue = rest ∧ Unchanged [.ingest, .drain, .sheets, .notices, .counters, .links, .cellQueue] s t

/-- A SWEEP_OPEN that passes the checks fills a slot with an empty sweep: the superseded sweep's, whose REWOUND result goes
out, or slot 0 where it is FREE and slot 1 otherwise. One that fails is refused by the first check that fails, with its
reason and the row it carries, and changes no state of the ingest (R24, R25). -/
def Obligations.SweepOpenStartsASweepOrIsRefused : Prop :=
  (∀ (s : State) (tag : Tag) (n d row : Nat) (x : Sheet) (r : Relief), Listening .t s → s.ingest.hold = false → d ≤ 1 →
      sheetAt s n = some x → x.state = .scanning → x.kind = .relief r → row = r.accepted → row < x.geom.height →
      r.accepted < r.written + 2 →
      ((∃ i w, fillingSweep s = some (i, w)) ∨ ∃ i : Fin 2, s.ingest.slots[i] = .free) →
      ∃ (t : State) (i : Fin 2), exec (.sweepOpen tag n d row) s = .next t
        ∧ t.ingest.slots = s.ingest.slots.set i (.filling
            { tag := tag, sheet := n, row := row, direction := if d = 0 then .forward else .backward, received := 0,
              long := false, check := 0xFFFF, lastGood := none, samples := [] })
        ∧ t.ingest.hold = s.ingest.hold ∧ t.ingest.stray = s.ingest.stray
        ∧ (∀ j w, fillingSweep s = some (j, w) → i = j
            ∧ (linkOf t .t).toSend = (linkOf s .t).toSend ++ [.sweepResult w.tag .rewound w.row .superseded]
            ∧ t.counters = s.counters.set cntSweepsRewound (s.counters[cntSweepsRewound] + 1))
        ∧ (fillingSweep s = none → (i = 0 ↔ s.ingest.slots[(0 : Fin 2)] = .free)
            ∧ t.links = (afterGoodRecord .t s).links ∧ t.counters = s.counters)
        ∧ Unchanged [.ingest, .links, .counters] s t)
  ∧ (∀ (s : State) (tag : Tag) (n d row : Nat), Listening .t s →
      let refused (reason : SweepReason) (y : Nat) : Prop := ∃ t, exec (.sweepOpen tag n d row) s = .next t
        ∧ t.links = (send .t (.sweepResult tag .refused y reason) (afterGoodRecord .t s)).links ∧ Unchanged [.links] s t
      (s.ingest.hold = true → refused .held row)
      ∧ (s.ingest.hold = false → 2 ≤ d → refused .badValue row)
      ∧ (s.ingest.hold = false → d ≤ 1 → sheetAt s n = none → refused .noSheet row)
      ∧ (∀ x, s.ingest.hold = false → d ≤ 1 → sheetAt s n = some x →
          (x.state = .retiring → refused .noSheet row)
          ∧ (∀ f, x.state ≠ .retiring → x.kind = .letter f → refused .wrongKind row)
          ∧ (∀ r, x.kind = .relief r →
              (x.state = .ready → refused .noSheet row)
              ∧ (x.state ≠ .ready → x.state ≠ .retiring →
                  (row ≠ r.accepted ∨ x.geom.height ≤ row → refused .rowOrder r.accepted)
                  ∧ (row = r.accepted → row < x.geom.height → r.written + 2 ≤ r.accepted → refused .slotsFull row)
                  ∧ (row = r.accepted → row < x.geom.height → r.accepted < r.written + 2 → fillingSweep s = none →
                      (∀ i : Fin 2, s.ingest.slots[i] ≠ .free) → refused .slotsFull row)))))

/-- SAMPLES to a FILLING sweep: every code as received goes through the check, the samples up to W are placed and counted
with VOID taken as 65,534 and dropouts by the sheet's policy, the rest only set the LONG mark. The first clause gives one
sample; a longer record does what its samples do one record each, in the order carried (R26, R27, R29). -/
def Obligations.SamplesArePlacedByDirectionAndPolicy : Prop :=
  (∀ (s : State) (tag : Tag) (c : Code) (drop : Bool) (i : Fin 2) (w : Sweep) (x : Sheet) (r : Relief), Listening .t s →
      fillingSweep s = some (i, w) → sheetAt s w.sheet = some x → x.kind = .relief r →
      ∃ (t : State) (v : Sweep) (voids helds : Nat), exec (.samples tag [(c, drop)]) s = .next t
        ∧ t.ingest = { s.ingest with slots := s.ingest.slots.set i (.filling v) }
        ∧ t.sheets = (setSheet w.sheet (some { x with voidCount := voids, heldCount := helds }) s).sheets
        ∧ v.check = crcByte (crcByte w.check (c.extractLsb' 8 8)) (c.extractLsb' 0 8)
        ∧ v.tag = w.tag ∧ v.sheet = w.sheet ∧ v.row = w.row ∧ v.direction = w.direction
        ∧ (x.geom.width ≤ w.received → v.long = true ∧ v.received = w.received ∧ v.samples = w.samples
            ∧ v.lastGood = w.lastGood ∧ voids = x.voidCount ∧ helds = x.heldCount)
        ∧ (w.received < x.geom.width → v.long = w.long ∧ v.received = w.received + 1 ∧
            ∃ placed : Code, v.samples = (if w.direction = .forward then w.samples ++ [placed] else placed :: w.samples)
              ∧ (drop = false → placed = (if c = 65535 then 65534 else c) ∧ v.lastGood = some placed
                  ∧ voids = x.voidCount ∧ helds = x.heldCount)
              ∧ (drop = true → v.lastGood = w.lastGood)
              ∧ (∀ g, drop = true → r.policy = .hold → w.lastGood = some g →
                  placed = g ∧ voids = x.voidCount ∧ helds = min (x.heldCount + 1) 4294967295)
              ∧ (drop = true → r.policy = .void ∨ w.lastGood = none →
                  placed = 65535 ∧ voids = min (x.voidCount + 1) 4294967295 ∧ helds = x.heldCount))
        ∧ Unchanged [.ingest, .sheets, .links] s t)
  ∧ (∀ (s : State) (tag : Tag) (a : Code × Bool) (xs : List (Code × Bool)) (i : Fin 2) (w : Sweep) (x : Sheet),
      Listening .t s → fillingSweep s = some (i, w) → sheetAt s w.sheet = some x →
      ∃ u t, exec (.samples tag [a]) s = .next u ∧ exec (.samples tag xs) u = .next t
        ∧ exec (.samples tag (a :: xs)) s = .next t)

/-- SWEEP_CLOSE is judged as R30's table gives; a bad close rewinds the sweep with the reason found, leaves rows accepted
as it was, and writes nothing (R30, R32). -/
def Obligations.SweepCloseIsJudgedByLengthAndCheck : Prop :=
  ∀ (s : State) (tag : Tag) (check : BitVec 16) (i : Fin 2) (w : Sweep) (x : Sheet), Listening .t s →
    fillingSweep s = some (i, w) → sheetAt s w.sheet = some x →
    let bad (reason : SweepReason) : Prop := ∃ t, exec (.sweepClose tag check) s = .next t
      ∧ t.ingest = { s.ingest with slots := s.ingest.slots.set i .free }
      ∧ (linkOf t .t).toSend = (linkOf s .t).toSend ++ [.sweepResult w.tag .rewound w.row reason]
      ∧ t.notices.pending = s.notices.pending ||| srcSweepRewound
      ∧ t.counters = s.counters.set cntSweepsRewound (s.counters[cntSweepsRewound] + 1)
      ∧ Unchanged [.ingest, .links, .notices, .counters] s t
    (w.long = true → bad .long)
    ∧ (w.long = false → w.received < x.geom.width → bad .short)
    ∧ (w.long = false → w.received = x.geom.width → w.check ≠ check → bad .check)
    ∧ (∀ r, w.long = false → w.received = x.geom.width → w.check = check → x.kind = .relief r →
        ∃ t, exec (.sweepClose tag check) s = .next t
          ∧ t.ingest = { s.ingest with slots := s.ingest.slots.set i (.closed w) }
          ∧ t.drain = { s.drain with jobs := s.drain.jobs ++ [.sweep i w.sheet w.row 0] }
          ∧ sheetAt t w.sheet = some { x with kind := .relief { r with accepted := r.accepted + 1 } }
          ∧ (∀ m, m ≠ w.sheet → sheetAt t m = sheetAt s m)
          ∧ (linkOf t .t).toSend = (linkOf s .t).toSend ++ [.sweepResult w.tag .good w.row .none]
          ∧ t.counters = s.counters.set cntSweepsGood (s.counters[cntSweepsGood] + 1)
          ∧ Unchanged [.ingest, .drain, .sheets, .links, .counters] s t)

/-- SAMPLES or SWEEP_CLOSE with no FILLING sweep is a stray record: dropped, answered by no record, changing no slot, and
counted in 32 bits; STATUS_READ reports the count with the state of each slot (R28). -/
def Obligations.StrayRecordIsDroppedAndCounted : Prop :=
  ∀ s : State,
    (∀ c : Instr, Listening .t s → fillingSweep s = none →
      (∃ tag xs, c = .samples tag xs) ∨ (∃ tag k, c = .sweepClose tag k) →
      ∃ t, exec c s = .next t ∧ t.ingest = { s.ingest with stray := s.ingest.stray + 1 }
        ∧ t.links = (afterGoodRecord .t s).links ∧ Unchanged [.ingest, .links] s t)
    ∧ (∀ (tag : Tag) (rest : List Request), AtFront ⟨tag, .statusRead⟩ rest s → portUp s .c = true →
      ∃ (t : State) (r : StatusReport), exec (.statusRead tag) s = .next t
        ∧ (linkOf t .c).toSend = (linkOf s .c).toSend ++ [.cellReply tag 3 .done (.status r)]
        ∧ r.stray = s.ingest.stray ∧ r.slots.length = 2
        ∧ ∀ i : Fin 2, ∃ x, r.slots[i.val]? = some x ∧ SlotReported s.ingest.slots[i] x)

/-- The entry a sweep job makes next: row y, word k, all four lanes with the slot's samples of columns 4k to 4k + 3 in the
tile and word of the tiling, the end-of-row marker on the last (R38). The base mode is judged at the entry, and the choice
is made from the queue with it (R105, R109). -/
def Obligations.SweepJobMakesTheWordsOfItsRow : Prop :=
  ∀ (s : State) (i : Fin 2) (n y k : Nat) (x : Sheet) (w : Sweep) (rest : List Job), s.resetAsserted = false →
    s.drain.jobs = .sweep i n y k :: rest → s.drain.queue.length < 64 → sheetAt s n = some x →
    x.geom.width % 32 = 0 → k < x.geom.width / 4 → w.samples.length = x.geom.width →
    s.ingest.slots[i] = (if k = 0 then .closed w else .draining w) →
    ∃ (t : State) (e : Entry), exec .feederMakeEntry s = .next t ∧ t.drain.queue.getLast? = some e
      ∧ t.drain.queue.length = s.drain.queue.length + 1
      ∧ e.sheet = n ∧ e.tile = x.geom.base + (y / 32) * (x.geom.width / 32) + k / 8 ∧ e.word = (y % 32) * 8 + k % 8
      ∧ (∀ l : Fin 4, e.lanes.getLsbD l = true ∧ w.samples[4 * k + l]? = some (lane e.codes l))
      ∧ e.kind = .sweep ∧ e.merge = .none
      ∧ e.endOfRow = (if k + 1 = x.geom.width / 4 then some y else none)
      ∧ (if k + 1 = x.geom.width / 4 then t.drain.jobs = rest ∧ t.ingest.slots[i] = .free
        else t.drain.jobs = .sweep i n y (k + 1) :: rest ∧ t.ingest.slots[i] = .draining w)
      ∧ t.mem = s.mem ∧ BaseModeJudged s t
      ∧ ∃ u, t = choose u ∧ u.drain = t.drain ∧ Unchanged [.drain, .ingest, .buffers, .sched, .notices, .counters] s u

/-- A fill job makes the words of its extent in order with code 0; a load job makes the covered words of its rectangle
row by row, an entry that lacks a lane needing a merge. The base mode is judged at each entry, and the choice is made from
the queue with it. With no word left to make or a full queue the command stops by name (R37, R39, R105, R109, R150; the stop
is the model's, log 1). -/
def Obligations.FillAndLoadJobsMakeTheirWords : Prop :=
  ∀ s : State, s.resetAsserted = false →
    (∀ (n k : Nat) (x : Sheet) (rest : List Job), s.drain.jobs = .fill n k :: rest → s.drain.queue.length < 64 →
      sheetAt s n = some x → k < extentOf x.geom * 256 →
      ∃ (t : State) (e : Entry), exec .feederMakeEntry s = .next t ∧ t.drain.queue.getLast? = some e
        ∧ e.sheet = n ∧ e.tile = x.geom.base + k / 256 ∧ e.word = k % 256 ∧ e.lanes = 15 ∧ e.codes = 0
        ∧ e.kind = .fill ∧ e.merge = .none ∧ e.endOfRow = none
        ∧ t.drain.jobs = (if k + 1 = extentOf x.geom * 256 then rest else .fill n (k + 1) :: rest)
        ∧ BaseModeJudged s t
        ∧ ∃ u, t = choose u ∧ u.drain = t.drain ∧ Unchanged [.drain, .ingest, .buffers, .sched, .notices, .counters] s u)
    ∧ (∀ (b : Fin 4) (n x y w h j a : Nat) (sh : Sheet) (codes : List Code) (rest : List Job),
      s.drain.jobs = .load b n x y w h (j * ((x + w - 1) / 4 - x / 4 + 1) + a) :: rest → s.drain.queue.length < 64 →
      sheetAt s n = some sh → s.buffers[b] = some codes → codes.length = w * h → 0 < w → j < h →
      a ≤ (x + w - 1) / 4 - x / 4 →
      ∃ (t : State) (e : Entry), exec .feederMakeEntry s = .next t ∧ t.drain.queue.getLast? = some e
        ∧ e.sheet = n ∧ e.tile = tileOf sh.geom (4 * (x / 4 + a)) (y + j) ∧ e.word = wordOf (4 * (x / 4 + a)) (y + j)
        ∧ e.kind = .load ∧ e.endOfRow = none
        ∧ (∀ l : Fin 4, let column := 4 * (x / 4 + a) + l
            (e.lanes.getLsbD l = true ↔ x ≤ column ∧ column < x + w)
            ∧ (x ≤ column → column < x + w → codes[j * w + (column - x)]? = some (lane e.codes l)))
        ∧ e.merge = (if e.lanes = 15 then .none else .needed)
        ∧ (if j + 1 = h ∧ a = (x + w - 1) / 4 - x / 4 then t.drain.jobs = rest ∧ t.buffers[b] = none
          else t.drain.jobs = .load b n x y w h (j * ((x + w - 1) / 4 - x / 4 + 1) + a + 1) :: rest
            ∧ t.buffers = s.buffers)
        ∧ BaseModeJudged s t
        ∧ ∃ u, t = choose u ∧ u.drain = t.drain ∧ Unchanged [.drain, .ingest, .buffers, .sched, .notices, .counters] s u)
    ∧ (s.drain.jobs = [] ∨ 64 ≤ s.drain.queue.length → exec .feederMakeEntry s = .fault .feederWaits)

/-! ### Spindle contexts -/

/-- SPINDLE_RELEASE replaces the release condition of each spindle of the set and clears its alarm-fired flag; a bad
spindle number or condition is refused BAD_VALUE (R61, R66). Condition codes: NONE 0, NEXT_MARK 1, AFTER_ALARM0 2,
AFTER_ALARM1 3 (R164). -/
def Obligations.SpindleReleaseReplacesTheCondition : Prop :=
  ∀ (s : State) (tag : Tag) (set : BitVec 8) (code : Nat) (rest : List Request),
    AtFront ⟨tag, .spindleRelease set code⟩ rest s →
    ∃ t, exec (.spindleRelease tag set code) s = .next t
      ∧ (4 ≤ code ∨ set.getLsbD 6 = true ∨ set.getLsbD 7 = true →
          Refused ⟨tag, .spindleRelease set code⟩ .badValue rest s t)
      ∧ (code ≤ 3 → set.getLsbD 6 = false → set.getLsbD 7 = false →
          (∀ n : Fin 6, t.spindles[n] = if set.getLsbD n then
              { s.spindles[n] with alarmFired := false, release := match code with
                  | 0 => .none
                  | 1 => .nextMark
                  | 2 => .afterAlarm0
                  | _ => .afterAlarm1 }
            else s.spindles[n])
          ∧ Answered ⟨tag, .spindleRelease set code⟩ .done .empty rest [.spindles] s t)

/-- SPINDLE_RETRACT withdraws each spindle of the set at once: its queries are answered RETRACT and leave the table, its
held depth is 0, it is RETRACTED with no resume pending, and the rest of its context stays. SPINDLE_RESUME marks the
RETRACTED spindles of its set and changes no other (R73, R74). -/
def Obligations.SpindleRetractWithdrawsAndResumeMarks : Prop :=
  (∀ (s : State) (tag : Tag) (set : BitVec 8) (rest : List Request), AtFront ⟨tag, .spindleRetract set⟩ rest s →
      ∃ t, exec (.spindleRetract tag set) s = .next t
        ∧ (set.getLsbD 6 = true ∨ set.getLsbD 7 = true → Refused ⟨tag, .spindleRetract set⟩ .badValue rest s t)
        ∧ (set.getLsbD 6 = false → set.getLsbD 7 = false →
            (∀ n : Fin 6, t.spindles[n] = if set.getLsbD n then
                { s.spindles[n] with state := .retracted, held := 0, resumePending := false }
              else s.spindles[n])
            ∧ t.queries.records = s.queries.records.filter (fun r => !set.getLsbD r.spindle)
            ∧ RepliesCounted 0 0 0 0 0 s t
            ∧ (portUp s .c = true → (linkOf t .c).toSend = (linkOf s .c).toSend ++ [.cellReply tag 15 .done .empty])
            ∧ (∀ n : Fin 6, set.getLsbD n = true → portUp s (.s n) = true →
                (linkOf t (.s n)).toSend = (linkOf s (.s n)).toSend
                  ++ (s.queries.records.filter (fun r => r.spindle == n)).map (fun r =>
                    .depthReply r.tag (s.time.frame.setWidth 16) 0 r.correction .retract noModifiers))
            ∧ t.cellQueue = rest ∧ Unchanged [.spindles, .queries, .counters, .links, .port, .sched, .cellQueue] s t))
  ∧ (∀ (s : State) (tag : Tag) (set : BitVec 8) (rest : List Request), AtFront ⟨tag, .spindleResume set⟩ rest s →
      ∃ t, exec (.spindleResume tag set) s = .next t
        ∧ (set.getLsbD 6 = true ∨ set.getLsbD 7 = true → Refused ⟨tag, .spindleResume set⟩ .badValue rest s t)
        ∧ (set.getLsbD 6 = false → set.getLsbD 7 = false →
            (∀ n : Fin 6, t.spindles[n] = if set.getLsbD n ∧ (s.spindles[n]).state = .retracted then
                { s.spindles[n] with resumePending := true } else s.spindles[n])
            ∧ Answered ⟨tag, .spindleResume set⟩ .done .empty rest [.spindles] s t))

/-- TOUCH_OFF: the measured correction is TOOL_NOMINAL less the length; within TOUCH_LIMIT it becomes the pending
correction, beyond it nothing of the context changes and TOOL_RANGE is set; TOUCH_RESULT carries it either way (R70,
R71). -/
def Obligations.TouchOffIsAcceptedWithinItsLimit : Prop :=
  ∀ (s : State) (n : Fin 6) (tag : Tag) (length : Nat), Listening (.s n) s →
    let new : Int := ((s.spindles[n]).active.toolNominal : Int) - length
    ∃ t, exec (.touchOff n tag length) s = .next t
      ∧ (new.natAbs ≤ (s.spindles[n]).active.touchLimit →
          t.spindles = s.spindles.set n { s.spindles[n] with pendingCorrection := some new }
          ∧ (linkOf t (.s n)).toSend = (linkOf s (.s n)).toSend ++ [.touchResult tag true new]
          ∧ Unchanged [.spindles, .links] s t)
      ∧ ((s.spindles[n]).active.touchLimit < new.natAbs →
          t.notices.pending = s.notices.pending ||| srcToolRange
          ∧ (linkOf t (.s n)).toSend = (linkOf s (.s n)).toSend ++ [.touchResult tag false new]
          ∧ (linkOf t .c).toSend = (linkOf s .c).toSend ++
              (if portUp s .c = true ∧ s.notices.pending &&& srcToolRange = 0
                  ∧ s.settings.noticeEnables &&& srcToolRange ≠ 0
                then [.notice ((s.notices.pending ||| srcToolRange) &&& s.settings.noticeEnables) s.time.frame (modeOf s)]
                else [])
          ∧ Unchanged [.notices, .links] s t)

/-! ### Depth queries -/

/-- A query that meets a condition of R82 is answered at once with the outcome of the first that holds, the query table is
not changed, and the held depth takes the cut: 0 for RETRACT, else the smaller of held depth and L. HELD_LATE raises its
counter, the other held outcomes share one, and RETRACT raises none (R82, R83, R96, R179). -/
def Obligations.QueryIsAnsweredAtArrivalByTheFirstCheck : Prop :=
  ∀ (s : State) (n : Fin 6) (tag : Tag) (due16 : BitVec 16) (u v : Int), Listening (.s n) s →
    let c := s.spindles[n]
    let mine := s.queries.records.filter (fun r => r.spindle == n)
    let late := (due16 - s.time.frame.setWidth 16).toInt ≤ 0
    let floor : Nat := match c.active.sheet.bind (sheetAt s) with
      | none => c.active.passFloor
      | some x => match x.kind with
        | .relief _ => c.active.passFloor
        | .letter f => if x.state = .retiring then c.active.passFloor else min c.active.passFloor f
    let answered (o : DepthOutcome) : Prop := ∃ (t : State) (cut : Nat), exec (.depthQuery n tag due16 u v) s = .next t
      ∧ cut = (if o = .retract then 0 else min c.held floor)
      ∧ (linkOf t (.s n)).toSend = (linkOf s (.s n)).toSend
          ++ [.depthReply tag (s.time.frame.setWidth 16) cut c.correction o noModifiers]
      ∧ t.spindles = s.spindles.set n { c with held := cut }
      ∧ t.counters = (if o = .retract then s.counters
          else if o = .heldLate then s.counters.set cntHeldLate (s.counters[cntHeldLate] + 1)
          else s.counters.set cntOtherHeld (s.counters[cntOtherHeld] + 1))
      ∧ Unchanged [.spindles, .counters, .links] s t
    (c.state = .retracted → answered .retract)
    ∧ (c.state = .unbound → answered .heldUnbound)
    ∧ (c.state = .bound → 4 ≤ mine.length → answered .heldBusy)
    ∧ (c.state = .bound → mine.length < 4 → (∃ r ∈ mine, r.tag = tag) → answered .heldDuplicate)
    ∧ (c.state = .bound → mine.length < 4 → (∀ r ∈ mine, r.tag ≠ tag) → late → answered .heldLate)
    ∧ (c.state = .bound → mine.length < 4 → (∀ r ∈ mine, r.tag ≠ tag) → ¬ late →
        (c.active.sheet.bind (sheetAt s) = none → answered .heldNoSheet)
        ∧ (∀ x, c.active.sheet.bind (sheetAt s) = some x →
            (x.state = .retiring → answered .heldNoSheet)
            ∧ (x.state = .filling ∨ x.state = .loading → answered .heldNotReady)))

/-- A query that passes takes the next sequence number and is counted; outside the sheet it is answered OUTSIDE with cut
0, beyond the frontier HELD_AHEAD, and otherwise its record joins the table's end with its cell and fractions, a snapshot of
the active set and c, its L, a due frame at one of the next four marks, and its fetches waiting: one for each needed word of
each needed row, in order, with the lanes of the needed columns. The choice is then made from the table with it, and a port
that is starting up or busy issues nothing (R79, R81, R83 to R88, R105). That the record takes the counter's value before it
rises is the model's (log 10). -/
def Obligations.QueryThatPassesIsAccepted : Prop :=
  ∀ (s : State) (n : Fin 6) (tag : Tag) (due16 : BitVec 16) (u v : Int) (k : Nat) (x : Sheet), Listening (.s n) s →
    (s.spindles[n]).state = .bound → s.queries.records.countP (fun r => r.spindle == n) < 4 →
    (∀ r ∈ s.queries.records, r.spindle = n → r.tag ≠ tag) → 0 < (due16 - s.time.frame.setWidth 16).toInt →
    (s.spindles[n]).active.sheet = some k → sheetAt s k = some x → x.state = .scanning ∨ x.state = .ready →
    let p := (s.spindles[n]).active
    let gx := gridPosition p.originX p.mirrorX p.ratio x.geom.pitch u
    let gy := gridPosition p.originY p.mirrorY p.ratio x.geom.pitch v
    let inside := 0 ≤ gx ∧ gx ≤ 256 * ((x.geom.width : Int) - 1) ∧ 0 ≤ gy ∧ gy ≤ 256 * ((x.geom.height : Int) - 1)
    let rows := neededOf (cellIndex gy x.geom.height) (cellFraction gy x.geom.height)
    let readable := x.state = .ready ∨ ∃ r, x.kind = .relief r ∧ ∀ y ∈ rows, y < r.written
    let busy := s.port.state = .init ∨ s.port.inFlight ≠ none
    ∃ t, exec (.depthQuery n tag due16 u v) s = .next t
      ∧ t.queries.nextSeq = s.queries.nextSeq + 1
      ∧ t.counters[cntQueriesAccepted] = s.counters[cntQueriesAccepted] + 1
      ∧ (¬ inside ∨ readable → RepliesCounted 0 0 0 0 0 s t) ∧ (inside → ¬ readable → RepliesCounted 0 0 1 0 0 s t)
      ∧ (¬ inside → (busy → t.queries.records = s.queries.records) ∧ (t.spindles[n]).held = 0
          ∧ (linkOf t (.s n)).toSend = (linkOf s (.s n)).toSend
            ++ [.depthReply tag (s.time.frame.setWidth 16) 0 (s.spindles[n]).correction .outside noModifiers])
      ∧ (inside → ¬ readable → (busy → t.queries.records = s.queries.records)
          ∧ (t.spindles[n]).held = min (s.spindles[n]).held (match x.kind with
              | .relief _ => p.passFloor
              | .letter f => min p.passFloor f)
          ∧ (linkOf t (.s n)).toSend = (linkOf s (.s n)).toSend
            ++ [.depthReply tag (s.time.frame.setWidth 16) (t.spindles[n]).held (s.spindles[n]).correction .heldAhead
              noModifiers])
      ∧ (inside → readable → t.queries.records.length = s.queries.records.length + 1 ∧ t.spindles = s.spindles
          ∧ ∃ (u : State) (r : QueryRecord), t = choose u ∧ (busy → t = u) ∧ u.queries.records = s.queries.records ++ [r]
            ∧ r.seq = s.queries.nextSeq ∧ r.spindle = n ∧ r.tag = tag
            ∧ r.sheet = k ∧ r.params = p ∧ r.correction = (s.spindles[n]).correction
            ∧ (∃ ahead : Nat, 1 ≤ ahead ∧ ahead ≤ 4 ∧ r.due = s.time.frame + BitVec.ofNat 32 ahead
                ∧ (ahead : Int) = min (due16 - s.time.frame.setWidth 16).toInt 4)
            ∧ (r.urgent = true ↔ s.time.urgencyPassed = true ∧ r.due = s.time.frame + 1)
            ∧ r.floor = (match x.kind with
                | .relief _ => p.passFloor
                | .letter f => min p.passFloor f)
            ∧ r.i = min (gx.toNat / 256) (x.geom.width - 2) ∧ r.fx = gx.toNat - 256 * r.i
            ∧ r.j = min (gy.toNat / 256) (x.geom.height - 2) ∧ r.fy = gy.toNat - 256 * r.j
            ∧ r.fetches ≠ []
            ∧ List.Forall₂ (fun (f : Fetch) (yk : Nat × Nat) =>
                f.tile = x.geom.base + (yk.1 / 32) * (x.geom.width / 32) + yk.2 / 8
                ∧ f.word = (yk.1 % 32) * 8 + yk.2 % 8 ∧ f.state = .waiting
                ∧ ∀ l : Fin 4, f.lanes.getLsbD l = true ↔ 4 * yk.2 + l ∈ neededOf r.i r.fx)
              r.fetches ((neededOf r.j r.fy).flatMap (fun y => (neededWords r.i r.fx).map (fun w => (y, w)))))

/-- The due frame agrees with due16 in its low 16 bits, is the only frame that does so from 32,768 before the current one
to 32,767 after it, and is clamped to four frames ahead; an offset of 0 or less is late at arrival (R81). -/
def Obligations.DueFrameIsTheNearFrameClampedToFour : Prop :=
  ∀ (due16 : BitVec 16) (frame : FrameNumber),
    -32768 ≤ dueOffset due16 frame ∧ dueOffset due16 frame ≤ 32767
    ∧ (frame + BitVec.ofInt 32 (dueOffset due16 frame)).setWidth 16 = due16
    ∧ (∀ k : Int, -32768 ≤ k → k ≤ 32767 → (frame + BitVec.ofInt 32 k).setWidth 16 = due16 → k = dueOffset due16 frame)
    ∧ (dueOffset due16 frame ≤ 4 → dueFrame due16 frame = frame + BitVec.ofInt 32 (dueOffset due16 frame))
    ∧ (4 < dueOffset due16 frame → dueFrame due16 frame = frame + 4)
    ∧ (0 < dueOffset due16 frame → ∃ ahead : Nat, 1 ≤ ahead ∧ ahead ≤ 4 ∧ dueFrame due16 frame = frame + BitVec.ofNat 32 ahead)
    ∧ (∀ (s : State) (n : Fin 6) (tag : Tag), s.time.frame = frame → dueOffset due16 frame ≤ 0 →
        arrivalOutcome s n tag due16 ≠ none)

/-- The grid position is the floor of 4,096 × ORIGIN + s × m × u over 16 × p, s being −1 under the mirror. One that is not
outside lies in the interpolation cell found, whose next column is on the sheet, and the needed columns are those of
non-zero weight, one or two, in rising order. The interpolated height is rounded to the nearest micrometre with ties up and
lies between the smallest and the largest of its four samples (R85, R86, R92). -/
def Obligations.MappingFindsACellAndInterpolatesWithinIt : Prop :=
  (∀ (origin u : Int) (mirror : Bool) (m p : Nat), 0 < p →
      let g := gridPosition origin mirror m p u
      let exact : Int := 4096 * origin + (if mirror = true then -(m * u) else m * u)
      (16 * p : Int) * g ≤ exact ∧ exact < (16 * p : Int) * (g + 1))
  ∧ (∀ (g : Int) (n : Nat), outsideGrid g n = true ↔ g < 0 ∨ 256 * ((n : Int) - 1) < g)
  ∧ (∀ (g : Int) (n : Nat), 2 ≤ n → outsideGrid g n = false →
      cellIndex g n + 1 < n ∧ cellFraction g n ≤ 256
      ∧ g = 256 * (cellIndex g n : Int) + (cellFraction g n : Int)
      ∧ (cellFraction g n = 256 → g = 256 * ((n : Int) - 1))
      ∧ (∀ i, i ∈ neededOf (cellIndex g n) (cellFraction g n) ↔
          (i = cellIndex g n ∧ 256 - cellFraction g n ≠ 0) ∨ (i = cellIndex g n + 1 ∧ cellFraction g n ≠ 0))
      ∧ 1 ≤ (neededOf (cellIndex g n) (cellFraction g n)).length
      ∧ (neededOf (cellIndex g n) (cellFraction g n)).length ≤ 2
      ∧ (neededOf (cellIndex g n) (cellFraction g n)).Pairwise (· < ·))
  ∧ (∀ (h00 h10 h01 h11 fx fy q lo hi : Nat), fx ≤ 256 → fy ≤ 256 →
      let a := h00 * (256 - fx) + h10 * fx
      let b := h01 * (256 - fx) + h11 * fx
      let sum := a * (256 - fy) + b * fy
      interpolationSum h00 h10 h01 h11 fx fy = sum
      ∧ 65536 * roundHeight sum q ≤ sum * q + 32768 ∧ sum * q < 65536 * roundHeight sum q + 32768
      ∧ (lo ≤ h00 → lo ≤ h10 → lo ≤ h01 → lo ≤ h11 → lo * q ≤ roundHeight sum q)
      ∧ (h00 ≤ hi → h10 ≤ hi → h01 ≤ hi → h11 ≤ hi → roundHeight sum q ≤ hi * q))

/-- The cut and its modifiers from the depth on the blank: the allowance off, clamped to 0 and L, then bounded by held depth
plus plunge limit. A record is void where a needed sample, read from its lane of the fetched word, is 65,535, and its height
is the rounded interpolation of the four samples so read, those not needed counting for nothing. A record whose words are
all in: HELD_VOID with MEMORY where one is uncorrectable, HELD_VOID where a needed sample is VOID, and otherwise CUT from
depth, scale, clamp and bound, with each modifier as the table of modifiers gives it (R91 to R95, R98). -/
def Obligations.CutFollowsFromTheWordsAndItsBounds : Prop :=
  (∀ (d allowance floor held plunge : Nat) (above : Bool),
      let cut := (boundCut d allowance floor held plunge above).1
      let mods := (boundCut d allowance floor held plunge above).2
      let clamped := min (d - allowance) floor
      cut = min clamped (held + plunge) ∧ cut ≤ floor ∧ cut ≤ held + plunge
      ∧ (mods.clampedLow = true ↔ d < allowance) ∧ (mods.clampedFloor = true ↔ floor + allowance < d)
      ∧ (mods.limited = true ↔ held + plunge < clamped) ∧ mods.aboveRef = above ∧ mods.memory = false
      ∧ ¬ (mods.clampedLow = true ∧ mods.limited = true))
  ∧ (∀ (x : Sheet) (r : QueryRecord) (held : Nat),
      let height := interpolate x.geom r
      (badWord r = true → computeAnswer x r held = (.heldVoid, min held r.floor, { noModifiers with memory := true }))
      ∧ (badWord r = false → voidNeeded x.geom r = true → computeAnswer x r held = (.heldVoid, min held r.floor, noModifiers))
      ∧ (badWord r = false → voidNeeded x.geom r = false →
          let cut := (computeAnswer x r held).2.1
          let mods := (computeAnswer x r held).2.2
          let cutTo (depth : Nat) : Prop :=
            let clamped := min (depth - r.params.allowance) r.floor
            cut = min clamped (held + r.params.plungeLimit)
            ∧ (mods.clampedLow = true ↔ depth < r.params.allowance)
            ∧ (mods.clampedFloor = true ↔ r.floor + r.params.allowance < depth)
            ∧ (mods.limited = true ↔ held + r.params.plungeLimit < clamped)
          (computeAnswer x r held).1 = .cut ∧ mods.memory = false
          ∧ (∀ rel, x.kind = .relief rel → cutTo ((rel.href - height) * 4096 / r.params.ratio)
              ∧ (mods.aboveRef = true ↔ rel.href < height))
          ∧ (∀ f, x.kind = .letter f → cutTo (height * r.params.vFactor / r.params.ratio) ∧ mods.aboveRef = false)))
  ∧ (∀ r : QueryRecord, badWord r = true ↔ ∃ f ∈ r.fetches, ∃ w, f.state = .done w true)
  ∧ (∀ (g : Geometry) (r : QueryRecord), r.fx ≤ 256 → r.fy ≤ 256 →
      (∀ x ∈ neededOf r.i r.fx, ∀ y ∈ neededOf r.j r.fy, ∃ c, FetchedSample g r x y c) →
      (voidNeeded g r = true ↔ ∃ x ∈ neededOf r.i r.fx, ∃ y ∈ neededOf r.j r.fy, FetchedSample g r x y 65535)
      ∧ ∀ h00 h10 h01 h11 : Code,
          (r.fx < 256 → r.fy < 256 → FetchedSample g r r.i r.j h00) →
          (0 < r.fx → r.fy < 256 → FetchedSample g r (r.i + 1) r.j h10) →
          (r.fx < 256 → 0 < r.fy → FetchedSample g r r.i (r.j + 1) h01) →
          (0 < r.fx → 0 < r.fy → FetchedSample g r (r.i + 1) (r.j + 1) h11) →
          interpolate g r =
            roundHeight (interpolationSum h00.toNat h10.toNat h01.toNat h11.toNat r.fx r.fy) g.quantum)

/-! ### Time -/

/-- With no event outstanding a TICK adds one to machine time, counts the frame's ticks or raises the mark at the last of
them, raises the urgency point at P − U, judges both alarm units, and runs the timers down; nothing else moves (R47, R49,
R52, R55, R134, R137). That the mark, the point and the firings are then taken by commands of their own is the model's
(log 2), and so is the second clause: a TICK with events outstanding first does what their own commands do, one after
another in a fixed order. -/
def Obligations.TickCountsAndRaisesWhatFallsOnIt : Prop :=
  (∀ s : State, s.resetAsserted = false → NoneOutstanding s →
    ∃ t, exec .tick s = .next t ∧ t.time.machineTime = s.time.machineTime + 1
      ∧ (s.time.ticks + 1 < s.time.period → t.time.ticks = s.time.ticks + 1 ∧ t.time.markDue = false
          ∧ (t.time.urgencyDue = true ↔ t.time.ticks = s.time.period - s.time.window))
      ∧ (s.time.period ≤ s.time.ticks + 1 → t.time.ticks = 0 ∧ t.time.markDue = true ∧ t.time.urgencyDue = false)
      ∧ t.time.frame = s.time.frame ∧ t.time.period = s.time.period ∧ t.time.window = s.time.window
      ∧ t.time.urgencyPassed = s.time.urgencyPassed
      ∧ (∀ a : Fin 2, let before := s.time.alarms[a]
          let now := (t.time.machineTime ^^^ before.compare) &&& ~~~before.mask = 0
          (t.time.alarms[a]).compare = before.compare ∧ (t.time.alarms[a]).mask = before.mask
          ∧ (t.time.alarms[a]).enabled = before.enabled ∧ ((t.time.alarms[a]).matching = true ↔ now)
          ∧ (t.time.alarmDue[a] = true ↔ before.enabled = true ∧ now ∧ before.matching = false))
      ∧ (∀ b : Fin 8, t.port.banks[b] = { s.port.banks[b] with timer := (s.port.banks[b]).timer.map (fun k => k - 1) })
      ∧ t.port.refreshLeft = s.port.refreshLeft.map (fun k => k - 1)
      ∧ t.port.inFlight = s.port.inFlight ∧ t.port.owed = s.port.owed ∧ t.port.state = s.port.state
      ∧ Unchanged [.time, .port] s t)
  ∧ (∀ (s : State) (c : Instr), s.resetAsserted = false → s.settings.refreshInterval ≠ 0 → nextOutstanding s = some c →
      ∃ u, exec c s = .next u ∧ exec .tick s = exec .tick u)

/-- A FRAME_MARK: the frame number rises by one, P and U take their settings, the urgency-passed flag is clear, every UP
spindle port is sent the new frame number with the machine time, the records due at the new frame leave the table answered
HELD_LATE, oldest first, with tag, correction and the cut of R83, an open chunk's hold count rises and the chunk goes out at
CHUNK_HOLD, the occupancy sum rises by the records due beyond the new frame, and the notice interval count rises or, at
NOTICE_INTERVAL, returns to 0 (R48, R49, R51, R101, R156, R176, R179). The model's own: a mark not raised stops by name (log
1), an urgency point that falls with the mark is raised by it (log 3), FRAME_MARK goes out before the late replies (log 9),
and a due frame is beyond the new one as a signed 32-bit comparison has it (log 18). -/
def Obligations.FrameMarkBeginsTheNextFrame : Prop :=
  (∀ s : State, s.resetAsserted = false →
      (s.time.markDue = true → ∃ t, exec .frameMark s = .next t
        ∧ t.time.frame = s.time.frame + 1 ∧ t.time.period = s.settings.framePeriod
        ∧ t.time.window = min s.settings.urgentWindow s.settings.framePeriod ∧ t.time.urgencyPassed = false
        ∧ t.time.markDue = false ∧ (t.time.urgencyDue = true ↔ s.settings.framePeriod ≤ s.settings.urgentWindow)
        ∧ t.time.machineTime = s.time.machineTime ∧ t.time.ticks = s.time.ticks ∧ t.time.alarms = s.time.alarms
        ∧ t.queries.records = s.queries.records.filter (fun r => r.due != s.time.frame + 1)
        ∧ (∀ n : Fin 6, let late := s.queries.records.filter (fun r => r.spindle == n && r.due == s.time.frame + 1)
            (t.spindles[n]).held = heldAfter (s.spindles[n]).held late
            ∧ (portUp s (.s n) = true → (linkOf t (.s n)).toSend = (linkOf s (.s n)).toSend
                ++ .frameMark (s.time.frame + 1) s.time.machineTime
                  :: heldReplies .heldLate (s.time.frame + 1) (s.spindles[n]).held late))
        ∧ (s.window = none → t.window = none)
        ∧ (∀ w, s.window = some w →
            (w.chunk = [] → t.window = some w)
            ∧ (w.chunk ≠ [] → w.hold + 1 < s.settings.chunkHold → t.window = some { w with hold := w.hold + 1 })
            ∧ (w.chunk ≠ [] → s.settings.chunkHold ≤ w.hold + 1 →
                t.window = some { w with chunk := [], hold := 0, nextIndex := w.nextIndex + 1,
                                         waiting := if portUp s .c = true then w.waiting + 1 else w.waiting }
                ∧ (portUp s .c = true → ∃ more, (linkOf t .c).toSend = (linkOf s .c).toSend
                    ++ .windowChunk w.tag w.nextIndex w.chunk :: more ∧ ∀ r ∈ more, r.isChunk = false)))
        ∧ RepliesCounted 0 0 0 (s.queries.records.countP (fun r => r.due == s.time.frame + 1)) 0 s t
        ∧ ((∃ r ∈ s.queries.records, r.due = s.time.frame + 1) →
            t.notices.pending = s.notices.pending ||| srcLateReply)
        ∧ t.sched.windowAge = (if s.sched.windowIssued then 0 else min (s.sched.windowAge + 1) 255)
        ∧ t.sched.windowIssued = false
        ∧ Unchanged [.time, .queries, .spindles, .sched, .port, .window, .links, .notices, .counters] s t)
      ∧ (s.time.markDue = false → exec .frameMark s = .fault .eventNotDue))
  ∧ (∀ s : State, s.resetAsserted = false → s.time.markDue = true →
      ∃ t, exec .frameMark s = .next t
        ∧ t.counters[cntOccupancy] = s.counters[cntOccupancy]
            + BitVec.ofNat 32 (s.queries.records.countP (fun r => 0 < (r.due - (s.time.frame + 1)).toInt))
        ∧ t.notices.interval =
            (if s.settings.noticeInterval ≤ s.notices.interval + 1 then 0 else s.notices.interval + 1)
        ∧ (s.notices.interval + 1 < s.settings.noticeInterval → s.window = none → t.links[portIndex .c] = s.links[portIndex .c])
        ∧ (s.settings.noticeInterval ≤ s.notices.interval + 1 → s.window = none → portUp s .c = true →
            s.settings.alwaysSend = true ∨ t.notices.pending &&& s.settings.noticeEnables ≠ 0 →
            (linkOf t .c).toSend = (linkOf s .c).toSend
              ++ [.notice (t.notices.pending &&& s.settings.noticeEnables) (s.time.frame + 1) (modeOf t)]))

/-- What a mark does to each spindle context: a due release copies the staged set whole, a pending correction becomes c,
a resumed spindle leaves RETRACTED, and a release outside RETRACTED or a resume makes the state follow the active SHEET
(R62, R68). The held depth is compared for spindles with no query due at the mark. -/
def Obligations.FrameMarkCarriesOutReleases : Prop :=
  ∀ s : State, s.resetAsserted = false → s.time.markDue = true →
    ∃ t, exec .frameMark s = .next t ∧ ∀ n : Fin 6,
      let c := s.spindles[n]
      let d := t.spindles[n]
      let due := c.release = .nextMark
        ∨ ((c.release = .afterAlarm0 ∨ c.release = .afterAlarm1) ∧ c.alarmFired = true)
      d.staged = c.staged
      ∧ (due → d.active = c.staged ∧ d.release = .none ∧ d.alarmFired = false)
      ∧ (¬ due → d.active = c.active ∧ d.release = c.release ∧ d.alarmFired = c.alarmFired)
      ∧ d.correction = c.pendingCorrection.getD c.correction ∧ d.pendingCorrection = none ∧ d.resumePending = false
      ∧ (c.state = .retracted → c.resumePending = false → d.state = .retracted)
      ∧ (c.resumePending = true ∨ (due ∧ c.state ≠ .retracted) →
          d.state = if d.active.sheet.isSome then .bound else .unbound)
      ∧ (¬ due → c.resumePending = false → d.state = c.state)
      ∧ ((∀ r ∈ s.queries.records, r.spindle = n → r.due ≠ s.time.frame + 1) → d.held = c.held)

/-- The URGENCY_POINT sets the urgency-passed flag and makes urgent the records due at the next mark, and the deadline
flag follows the urgent WAITING fetches (R52, R100, R111). A point that has not been raised stops by name (the model's, log
1). -/
def Obligations.UrgencyPointMakesTheNextFramesQueriesUrgent : Prop :=
  ∀ s : State, s.resetAsserted = false →
    (s.time.urgencyDue = true → ∃ t, exec .urgencyPoint s = .next t
      ∧ t.time = { s.time with urgencyPassed := true, urgencyDue := false }
      ∧ t.queries.records = s.queries.records.map (fun r => { r with urgent := r.urgent || r.due == s.time.frame + 1 })
      ∧ (t.sched.deadline = true ↔
          ∃ r ∈ t.queries.records, r.urgent = true ∧ ∃ f ∈ r.fetches, f.state = .waiting)
      ∧ t.counters = (if t.sched.deadline = true ∧ s.sched.deadline = false
          then s.counters.set cntDeadline (s.counters[cntDeadline] + 1) else s.counters)
      ∧ Unchanged [.time, .queries, .sched, .counters] s t)
    ∧ (s.time.urgencyDue = false → exec .urgencyPoint s = .fault .eventNotDue)

/-- An ALARM_FIRE sets the unit's source whether or not it is enabled and the alarm-fired flag of each context that waits
on that unit, and nothing else (R57, R67). A firing that has not been raised stops by name (the model's, log 1). -/
def Obligations.AlarmFiringReachesTheSpindlesThatWait : Prop :=
  ∀ (s : State) (a : Fin 2), s.resetAsserted = false →
    (s.time.alarmDue[a] = true → ∃ t, exec (.alarmFire a) s = .next t
      ∧ t.time = { s.time with alarmDue := s.time.alarmDue.set a false }
      ∧ t.notices = { s.notices with pending := s.notices.pending ||| (if a = 0 then 32 else 64) }
      ∧ (∀ n : Fin 6, t.spindles[n] =
          if (s.spindles[n]).release = (if a = 0 then .afterAlarm0 else .afterAlarm1)
            then { s.spindles[n] with alarmFired := true } else s.spindles[n])
      ∧ Unchanged [.time, .notices, .spindles] s t)
    ∧ (s.time.alarmDue[a] = false → exec (.alarmFire a) s = .fault .eventNotDue)

/-- TIME_SET with no event outstanding loads machine time, restarts the tick count, clears the urgency-passed flag, keeps
frame number, P and U, and judges the alarm units: an enabled unit fires at the load whenever the value matches, setting its
source and the flag of each spindle that waits on it (R53, R56, R57, R67). That an urgency point that falls at once follows
as a command of its own is the model's (log 3), and so is the second clause (log 2): with events outstanding, the request
once off the queue, they are first taken as by their own commands, one after another in a fixed order. -/
def Obligations.TimeSetLoadsMachineTime : Prop :=
  (∀ (s : State) (tag : Tag) (v : MachineTime) (rest : List Request), AtFront ⟨tag, .timeSet v⟩ rest s →
    NoneOutstanding s →
    let fires (a : Fin 2) : Bool := (s.time.alarms[a]).enabled
      && (v ^^^ (s.time.alarms[a]).compare) &&& ~~~(s.time.alarms[a]).mask == 0
    ∃ t, exec (.timeSet tag v) s = .next t
      ∧ t.time.machineTime = v ∧ t.time.ticks = 0 ∧ t.time.urgencyPassed = false
      ∧ t.time.frame = s.time.frame ∧ t.time.period = s.time.period ∧ t.time.window = s.time.window
      ∧ (t.time.urgencyDue = true ↔ s.time.window = s.time.period) ∧ t.time.markDue = s.time.markDue
      ∧ (∀ a : Fin 2, let before := s.time.alarms[a]
          let now := (v ^^^ before.compare) &&& ~~~before.mask = 0
          (t.time.alarms[a]).compare = before.compare ∧ (t.time.alarms[a]).mask = before.mask
          ∧ (t.time.alarms[a]).enabled = before.enabled ∧ ((t.time.alarms[a]).matching = true ↔ now)
          ∧ t.time.alarmDue[a] = false)
      ∧ t.notices = { s.notices with pending :=
          s.notices.pending ||| (if fires 0 then 32 else 0) ||| (if fires 1 then 64 else 0) }
      ∧ (∀ n : Fin 6, t.spindles[n] =
          if ((s.spindles[n]).release = .afterAlarm0 ∧ fires 0 = true)
              ∨ ((s.spindles[n]).release = .afterAlarm1 ∧ fires 1 = true)
            then { s.spindles[n] with alarmFired := true } else s.spindles[n])
      ∧ Answered ⟨tag, .timeSet v⟩ .done .empty rest [.time, .notices, .spindles] s t)
  ∧ (∀ (s : State) (tag : Tag) (v : MachineTime) (rest : List Request) (c : Instr), AtFront ⟨tag, .timeSet v⟩ rest s →
      s.settings.refreshInterval ≠ 0 → nextOutstanding s = some c →
      ∃ u, exec c (s.setCellQueue rest) = .next u
        ∧ exec (.timeSet tag v) s = exec (.timeSet tag v) (u.setCellQueue (⟨tag, .timeSet v⟩ :: rest)))

/-- ALARM_SET replaces all three fields of the unit, judges its match and never fires it (that a firing raised by a TICK and
not yet taken stays raised, also with enable OFF, is the model's choice, log 27); a unit other than 0 and 1 or an
enable other than OFF (0) and ON (1) is refused BAD_VALUE (R58). -/
def Obligations.AlarmSetReplacesTheUnitWithoutFiring : Prop :=
  ∀ (s : State) (tag : Tag) (unit : Nat) (compare mask : MachineTime) (enable : Nat) (rest : List Request),
    AtFront ⟨tag, .alarmSet unit compare mask enable⟩ rest s →
    ∃ t, exec (.alarmSet tag unit compare mask enable) s = .next t
      ∧ (2 ≤ unit ∨ 2 ≤ enable → Refused ⟨tag, .alarmSet unit compare mask enable⟩ .badValue rest s t)
      ∧ (∀ a : Fin 2, unit = a → enable ≤ 1 →
          (∃ m : AlarmUnit, t.time = { s.time with alarms := s.time.alarms.set a m }
            ∧ m.compare = compare ∧ m.mask = mask ∧ (m.enabled = true ↔ enable = 1)
            ∧ (m.matching = true ↔ (s.time.machineTime ^^^ compare) &&& ~~~mask = 0))
          ∧ Answered ⟨tag, .alarmSet unit compare mask enable⟩ .done .empty rest [.time] s t)

/-! ### Notices, monitor and service reset -/

/-- NOTICE_ACK removes the sources named from the pending set, or is refused whole where a bit names no source;
COUNTERS_CLEAR sets every counter to 0 (R178, R180). -/
def Obligations.NoticeAckAndCountersClear : Prop :=
  ∀ (s : State) (tag : Tag) (rest : List Request),
    (∀ bits : BitVec 16, AtFront ⟨tag, .noticeAck bits⟩ rest s → ∃ t, exec (.noticeAck tag bits) s = .next t
      ∧ ((∃ k, 10 ≤ k ∧ k < 16 ∧ bits.getLsbD k = true) → Refused ⟨tag, .noticeAck bits⟩ .badValue rest s t)
      ∧ ((∀ k, 10 ≤ k → k < 16 → bits.getLsbD k = false) →
          (∀ k, k < 10 → t.notices.pending.getLsbD k = (s.notices.pending.getLsbD k && !bits.getLsbD k))
          ∧ t.notices.interval = s.notices.interval
          ∧ Answered ⟨tag, .noticeAck bits⟩ .done .empty rest [.notices] s t))
    ∧ (AtFront ⟨tag, .countersClear⟩ rest s → ∃ t, exec (.countersClear tag) s = .next t
      ∧ (∀ k : Fin 28, t.counters[k] = 0) ∧ Answered ⟨tag, .countersClear⟩ .done .empty rest [.counters] s t)

/-- SERVICE_RESET: the time base, the settings and the memory are kept; the ingest and drain path, the load buffers, the
window, the query table and every spindle's cut are given up; kept sheets lose only their rows on the way. A FILLING sweep
gets its FLUSHED result; a waiting SHEET_READY is answered REFUSED NO_SHEET, a waiting SHEET_CLOSE DONE where its sheet
becomes FREE, and a window read CANCELLED, all before the DONE of the reset. The choice that follows finds every OPEN bank
marked close-wanted and a refresh in progress still so (R21, R32, R45, R78, R104, R127, R144, R159, R172, R173, R180). The
order of the replies before the last is the model's (log 13). -/
def Obligations.ServiceResetGivesUpWorkAndKeepsSheets : Prop :=
  ∀ (s : State) (tag : Tag) (rest : List Request), AtFront ⟨tag, .serviceReset⟩ rest s →
    let readyAnswer (x : Sheet) : List OutRecord := match x.readyWaiting with
      | some r => [OutRecord.cellReply r 5 (.refused .noSheet) .empty]
      | none => []
    let closeAnswer (n : Nat) (x : Sheet) : List OutRecord := match x.closeWaiting with
      | some c => if x.state = .scanning ∨ x.state = .ready ∨ inFlightFor s n = true then []
          else [OutRecord.cellReply c 6 .done .empty]
      | none => []
    let sheetAnswers (n : Nat) : List OutRecord := match sheetAt s n with
      | some x => readyAnswer x ++ closeAnswer n x
      | none => []
    let windowAnswer : List OutRecord := match s.window with
      | some w => [OutRecord.cellReply w.tag 9 .cancelled .empty]
      | none => []
    ∃ t, exec (.serviceReset tag) s = .next t
      ∧ t.time = s.time ∧ t.settings = s.settings ∧ t.mem = s.mem ∧ t.cellQueue = rest
      ∧ (∀ i : Fin 2, t.ingest.slots[i] = .free) ∧ t.ingest.hold = s.ingest.hold ∧ t.ingest.stray = 0
      ∧ t.drain.jobs = [] ∧ t.drain.queue = [] ∧ (∀ b : Fin 4, t.buffers[b] = none) ∧ t.window = none
      ∧ t.queries.records = [] ∧ t.queries.nextSeq = 0
      ∧ (∀ n : Fin 6, (t.spindles[n]).state = .retracted ∧ (t.spindles[n]).held = 0 ∧ (t.spindles[n]).release = .none
          ∧ (t.spindles[n]).alarmFired = false ∧ (t.spindles[n]).resumePending = false
          ∧ (t.spindles[n]).active = (s.spindles[n]).active ∧ (t.spindles[n]).staged = (s.spindles[n]).staged
          ∧ (t.spindles[n]).correction = (s.spindles[n]).correction
          ∧ (t.spindles[n]).pendingCorrection = (s.spindles[n]).pendingCorrection)
      ∧ (∀ n x, sheetAt s n = some x →
          (x.state = .ready → sheetAt t n = some { x with readyWaiting := none })
          ∧ (∀ r, x.state = .scanning → x.kind = .relief r →
              sheetAt t n = some { x with readyWaiting := none, kind := .relief { r with accepted := r.written } })
          ∧ (x.state ≠ .ready → x.state ≠ .scanning → inFlightFor s n = false → sheetAt t n = none)
          ∧ (x.state ≠ .ready → x.state ≠ .scanning → inFlightFor s n = true →
              ∃ y, sheetAt t n = some y ∧ y.state = .retiring ∧ y.closeWaiting = x.closeWaiting))
      ∧ t.sched.baseMode = .readFirst ∧ t.sched.deadline = false ∧ t.sched.windowAge = 0
      ∧ t.port.state = s.port.state ∧ t.port.owed = s.port.owed ∧ t.port.refreshLeft = s.port.refreshLeft
      ∧ (∀ b : Fin 8, (t.port.banks[b]).row = (s.port.banks[b]).row ∧ (t.port.banks[b]).timer = none)
      ∧ (∀ o, s.port.inFlight = some o → t.port.inFlight = some { o with discard := true, afterReset := true })
      ∧ t.notices.pending = 0 ∧ t.notices.interval = 0 ∧ (s.port.owed < 8 → ∀ k : Fin 28, t.counters[k] = 0)
      ∧ (portUp s .c = true → (linkOf t .c).toSend = (linkOf s .c).toSend
          ++ (List.range 16).flatMap sheetAnswers ++ windowAnswer ++ [.cellReply tag 22 .done .empty])
      ∧ (∀ i w, fillingSweep s = some (i, w) → portUp s .t = true → (linkOf t .t).toSend = (linkOf s .t).toSend
          ++ [.sweepResult w.tag .rewound w.row .flushed])
      ∧ (fillingSweep s = none → linkOf t .t = linkOf s .t)
      ∧ (∃ u, t = choose u ∧ u.sched.refreshing = s.sched.refreshing ∧ u.sched.windowIssued = false
          ∧ ∀ b : Fin 8, (u.port.banks[b]).row = (s.port.banks[b]).row
            ∧ ((s.port.banks[b]).row ≠ none → (u.port.banks[b]).closeWanted = true))
      ∧ (∀ p : Port, portUp t p = portUp s p)

/-! ### Station links -/

/-- On a DOWN port the 64th good idle symbol in a row brings it UP with both counts 0 and sets LINK_CHANGE; any other symbol
and loss of carrier return the idle count to 0. A record that begins on a DOWN port is not taken and not judged: its symbols
return the idle count to 0 and nothing else changes. An UP port is not changed by an idle or another symbol (R160; that a
record's symbols are other symbols, and the last for an UP port, are the model's readings, log 16). -/
def Obligations.IdleSymbolsBringAPortUp : Prop :=
  ∀ (s : State) (p : Port), s.resetAsserted = false →
    (portUp s p = true → exec (.idleSymbol p) s = .next s ∧ exec (.otherSymbol p) s = .next s)
    ∧ (portUp s p = false →
        (∃ t, exec (.idleSymbol p) s = .next t
          ∧ ((linkOf s p).idle + 1 < 64 → t = setLink p { linkOf s p with idle := (linkOf s p).idle + 1 } s)
          ∧ (64 ≤ (linkOf s p).idle + 1 → linkOf t p = { linkOf s p with up := true, idle := 0, bad := 0 }
              ∧ (∀ p', p' ≠ p → linkOf t p' = linkOf s p')
              ∧ t.notices.pending = s.notices.pending ||| srcLinkChange ∧ Unchanged [.links, .notices] s t))
        ∧ exec (.otherSymbol p) s = .next (setLink p { linkOf s p with idle := 0 } s)
        ∧ exec (.lossOfCarrier p) s = .next (setLink p { linkOf s p with idle := 0 } s)
        ∧ let notTaken (c : Instr) : Prop := exec c s = .next (setLink p { linkOf s p with idle := 0 } s)
          (p = .c → ∀ tag r, notTaken (.cellRequestArrives tag r))
          ∧ (p = .t → ∀ tag, (∀ n d row, notTaken (.sweepOpen tag n d row)) ∧ (∀ xs, notTaken (.samples tag xs))
              ∧ ∀ check, notTaken (.sweepClose tag check))
          ∧ ∀ n, p = .s n → ∀ tag, (∀ due u v, notTaken (.depthQuery n tag due u v))
              ∧ ∀ length, notTaken (.touchOff n tag length))

/-- At loss of carrier an UP port goes DOWN with nothing left to send and LINK_CHANGE set, and its owners act: Port C
empties the request queue, withdraws waiting SHEET_READYs and abandons the window; Port T rewinds the FILLING sweep LINK
without a result; a spindle port withdraws its queries and leaves its spindle RETRACTED at held depth 0. The window READ or
the READ of a withdrawn record in flight is to be discarded, and the memory port is otherwise as it was (R22, R46, R75,
R103, R111, R145, R159, R161, R173). -/
def Obligations.LossOfCarrierTakesThePortDown : Prop :=
  ∀ (s : State) (p : Port), s.resetAsserted = false → portUp s p = true →
    ∃ t, exec (.lossOfCarrier p) s = .next t ∧ TakenDown p s t

/-- A bad record on an UP port is counted and sets CHECK_ERROR; below eight in a row the port stays UP, at the eighth it
goes DOWN and the owners of its state act as at loss of carrier. On a DOWN port nothing is judged, and the idle count
returns to 0 (R160, R161, R165; the model's reading, log 16). A record that is good is no bad record, and the command stops
by name (the model's, log 1). -/
def Obligations.BadRecordsAreCountedAndTheEighthTakesThePortDown : Prop :=
  ∀ (s : State) (p : Port) (bytes : List Byte), s.resetAsserted = false →
    (decodeRecord p bytes = none → portUp s p = true → ∃ t, exec (.badRecord p bytes) s = .next t
      ∧ t.counters[cntCheckErrors p] = s.counters[cntCheckErrors p] + 1
      ∧ t.notices.pending.getLsbD 8 = true
      ∧ ((linkOf s p).bad + 1 < 8 → linkOf t p = { linkOf s p with bad := (linkOf s p).bad + 1 }
          ∧ (∀ p', p' ≠ p → linkOf t p' = linkOf s p') ∧ Unchanged [.links, .counters, .notices] s t)
      ∧ (8 ≤ (linkOf s p).bad + 1 → ∃ u, Unchanged [.links, .counters, .notices] s u
          ∧ linkOf u p = { linkOf s p with bad := (linkOf s p).bad + 1 } ∧ (∀ p', p' ≠ p → linkOf u p' = linkOf s p')
          ∧ u.counters = s.counters.set (cntCheckErrors p) (s.counters[cntCheckErrors p] + 1)
          ∧ u.notices = { s.notices with pending := s.notices.pending ||| srcCheckError } ∧ TakenDown p u t))
    ∧ (decodeRecord p bytes = none → portUp s p = false →
        exec (.badRecord p bytes) s = .next (setLink p { linkOf s p with idle := 0 } s))
    ∧ (decodeRecord p bytes ≠ none → exec (.badRecord p bytes) s = .fault .recordIsGood)

/-! ### The scheduler and the memory port -/

/-- A choice is made in RUN with no operation in flight only, and it issues by the first step of the order that applies: a
refresh in progress, a forced refresh, the DEADLINE order, a refresh at 4 owed, the promoted window word, the base mode's
access, a refresh, an idle close, nothing. A refresh is in progress from its first CLOSE until the issue of its REFRESH.
Each issue is for the sheet of its candidate and has its own effects and no other: it stops the bank's timer and clears its
mark; a row hit, an OPEN, a merge READ, a preemption and a forced refresh count; the fetch of a fetch READ becomes ISSUED
and the deadline flag is judged; at a window READ the reader goes on, the window-issued flag is set, and a promoted READ
returns the window age to 0 (R18, R80, R105 to R107, R111, R112, R114, R116, R117, R119 to R122, R131, R132, R154). That the
rows after one that is not read are taken up at once is the model's reading (log 12). -/
def Obligations.ChoiceIssuesByTheFirstStepThatApplies : Prop :=
  ∀ s : State,
    (s.port.state = .init ∨ s.port.inFlight ≠ none → choose s = s)
    ∧ (s.port.state = .run → s.port.inFlight = none →
      let takes (op : MemoryOp) : Prop := ∃ o, (choose s).port.inFlight = some o ∧ o.op = op
      let issues (op : MemoryOp) : Prop := takes op ∧ (choose s).sched.refreshing = false
      let refreshes : Prop := takes (refreshOperation s)
        ∧ ((choose s).sched.refreshing = true ↔ refreshOperation s ≠ .refresh)
      let query (c : QueryCandidate) := operationToward s c.tile (.read c.tile c.word (.fetch c.seq c.index))
      let windowTarget (w : WindowRead) (y k : Nat) :=
        operationToward s (windowTile s w y k) (.read (windowTile s w y k) (wordOf (4 * k) y) (.window y k))
      let drain (e : Entry) := operationToward s e.tile
        (if e.merge = .needed then .read e.tile e.word .merge else .write e.tile e.word e.codes)
      let calm := s.sched.refreshing = false ∧ s.sched.deadline = false ∧ s.port.owed < 4
        ∧ (offeredWord s = none ∨ s.sched.windowAge < s.settings.windowStarve)
      (s.sched.refreshing = true → refreshes)
      ∧ (s.sched.refreshing = false → 8 ≤ s.port.owed → refreshes
          ∧ (choose s).counters[cntForcedRefreshes] = s.counters[cntForcedRefreshes] + 1)
      ∧ (∀ c, s.sched.refreshing = false → s.port.owed < 8 → s.sched.deadline = true → firstUrgent s = some c →
          issues (query c))
      ∧ (s.sched.refreshing = false → s.sched.deadline = false → 4 ≤ s.port.owed → refreshes)
      ∧ (∀ w y k, s.sched.refreshing = false → s.sched.deadline = false → s.port.owed < 4 →
          offeredWord s = some (w, y, k) → s.settings.windowStarve ≤ s.sched.windowAge → issues (windowTarget w y k))
      ∧ (∀ c, calm → s.sched.baseMode = .readFirst → firstQuery s = some c → issues (query c))
      ∧ (∀ w y k, calm → s.sched.baseMode = .readFirst → firstQuery s = none → offeredWord s = some (w, y, k) →
          issues (windowTarget w y k))
      ∧ (∀ e rest, calm → s.sched.baseMode = .readFirst → firstQuery s = none → offeredWord s = none →
          s.drain.queue = e :: rest → issues (drain e))
      ∧ (∀ e rest, calm → s.sched.baseMode = .writeFirst → s.drain.queue = e :: rest → issues (drain e))
      ∧ (∀ c, calm → s.sched.baseMode = .writeFirst → s.drain.queue = [] → firstQuery s = some c → issues (query c))
      ∧ (∀ w y k, calm → s.sched.baseMode = .writeFirst → s.drain.queue = [] → firstQuery s = none →
          offeredWord s = some (w, y, k) → issues (windowTarget w y k))
      ∧ (calm → firstQuery s = none → offeredWord s = none → s.drain.queue = [] →
          (1 ≤ s.port.owed → refreshes)
          ∧ (∀ b : Fin 8, s.port.owed = 0 → (s.port.banks[b]).closeWanted = true → (s.port.banks[b]).row ≠ none →
              (∀ a : Fin 8, a < b → ¬ ((s.port.banks[a]).closeWanted = true ∧ (s.port.banks[a]).row ≠ none)) →
              issues (.closeRow b))
          ∧ (s.port.owed = 0 → (∀ b : Fin 8, (s.port.banks[b]).closeWanted = false) → choose s = s))
      ∧ ((choose s).port.inFlight = none → choose s = s)
      ∧ ∀ o, (choose s).port.inFlight = some o → IssueEffects s (choose s) o)

/-- The query class is every WAITING fetch of every record, in record and fetch order; the window class is the reader's next
word, none while a chunk of the window waits; the tiles that candidates name are those of the two and of the drain head.
Among the query fetches the first is the oldest that is a row hit, or the oldest of all; in DEADLINE the same holds among
the urgent fetches of the earliest due frame (R108, R113, R115, R154). That "earliest" is measured ahead of the current
frame is the model's reading (log 17). -/
def Obligations.FirstFetchIsTheOldestRowHit : Prop :=
  ∀ s : State,
    queryCandidates s = s.queries.records.flatMap (fun r =>
      (r.fetches.zipIdx.filter (fun p => p.1.state == .waiting)).map (fun p =>
        { seq := r.seq, index := p.2, urgent := r.urgent, due := r.due, sheet := r.sheet, tile := p.1.tile, word := p.1.word }))
    ∧ (∀ w y k, offeredWord s = some (w, y, k) ↔ s.window = some w ∧ w.cursor = some (y, k) ∧ w.waiting = 0)
    ∧ (∀ w y k x, sheetAt s w.sheet = some x →
        windowTile s w y k = x.geom.base + (y / 32) * (x.geom.width / 32) + k / 8)
    ∧ (∀ tile, tile ∈ candidateTiles s ↔
        (∃ c ∈ queryCandidates s, c.tile = tile) ∨ (∃ e rest, s.drain.queue = e :: rest ∧ e.tile = tile)
          ∨ ∃ w y k, offeredWord s = some (w, y, k) ∧ windowTile s w y k = tile)
    ∧ (∀ tile, isOpenOn s tile = true ↔ (s.port.banks[bankOf tile]).row = some (tile / 8))
    ∧ ∀ c : QueryCandidate,
      (firstQuery s = none ↔ queryCandidates s = [])
      ∧ (firstQuery s = some c →
          (∃ before after, queryCandidates s = before ++ c :: after ∧ isOpenOn s c.tile = true
            ∧ ∀ d ∈ before, isOpenOn s d.tile = false)
          ∨ ((∀ d ∈ queryCandidates s, isOpenOn s d.tile = false) ∧ (queryCandidates s).head? = some c))
      ∧ (firstUrgent s = none ↔ ∀ d ∈ queryCandidates s, d.urgent = false)
      ∧ (firstUrgent s = some c → c ∈ queryCandidates s ∧ c.urgent = true
          ∧ (∀ d ∈ queryCandidates s, d.urgent = true → framesAhead s c.due ≤ framesAhead s d.due)
          ∧ ((∃ d ∈ queryCandidates s, d.urgent = true ∧ framesAhead s d.due = framesAhead s c.due
              ∧ isOpenOn s d.tile = true) → isOpenOn s c.tile = true)
          ∧ ∃ before after, queryCandidates s = before ++ c :: after
            ∧ ∀ d ∈ before, d.urgent = true → framesAhead s d.due = framesAhead s c.due →
              isOpenOn s c.tile = true ∧ isOpenOn s d.tile = false)

/-- The end of the start-up sequence begins RUN and the first refresh interval; an OPEN leaves its bank OPEN on its row with
no access counted yet and its timer running from ROW_CLOSE_TIME, a CLOSE leaves it CLOSED, a REFRESH takes one from refresh
owed; after a service reset the opened bank is marked close-wanted with its timer stopped. At each of the last three a bank
left OPEN and unmarked with no timer running, as ROW_CLOSE_TIME 0 leaves it, is judged: where a candidate names its row the
timer starts with ROW_CLOSE_TIME as it then stands, and with 0 stays stopped; where none does the bank is marked
close-wanted (that every such bank is judged: log 15). The choice is made from the state so settled; where nothing is wanted
the port stays idle. A completion of what is not in flight stops by name, also where an operation of another kind is in
flight (R105, R129, R131, R133 to R136, R144; the stops are the model's, log 1). -/
def Obligations.StartUpAndBankOperationsComplete : Prop :=
  ∀ s : State, s.resetAsserted = false →
    let keeps (u : State) (b : Fin 8) : Prop := BankJudged u b s.port.banks[b]
    (s.port.state = .init → ∃ t, exec .initialisationComplete s = .next t ∧ t.port.state = .run
        ∧ t.port.refreshLeft = some s.settings.refreshInterval ∧ t.port.owed = s.port.owed
        ∧ Unchanged [.port, .sched, .queries, .window, .counters] s t
        ∧ t = choose (s.setPort { s.port with state := .run, refreshLeft := some s.settings.refreshInterval }))
    ∧ (s.port.state = .run → exec .initialisationComplete s = .fault .startUpNotUnderWay)
    ∧ (∀ (b : Fin 8) (row : Nat) (d a : Bool), s.port.inFlight = some ⟨.openRow b row, none, d, a⟩ →
        ∃ t, exec .openComplete s = .next t ∧ (t.port.banks[b]).row = some row
          ∧ (∀ b' : Fin 8, b' ≠ b → (t.port.banks[b']).row = (s.port.banks[b']).row)
          ∧ Unchanged [.port, .sched, .queries, .window, .counters] s t
          ∧ (∃ u, ChosenFrom s u t ∧ Unchanged [.port] s u ∧ u.port.owed = s.port.owed ∧ (∀ b' : Fin 8, b' ≠ b → keeps u b')
              ∧ BankJudged u b
                (restartedBank s a { row := some row, timer := none, closeWanted := false, accessed := false }))
          ∧ (NothingWanted s → (∀ b' : Fin 8, (s.port.banks[b']).row = none ∨ (s.port.banks[b']).timer ≠ none) →
              a = false → s.settings.rowCloseTime ≠ 0 → t.port.inFlight = none
              ∧ t.port.banks[b] =
                { row := some row, timer := some s.settings.rowCloseTime, closeWanted := false, accessed := false }))
    ∧ (∀ (b : Fin 8) (d a : Bool), s.port.inFlight = some ⟨.closeRow b, none, d, a⟩ →
        ∃ t, exec .closeComplete s = .next t ∧ (t.port.banks[b]).row = none
          ∧ (∀ b' : Fin 8, b' ≠ b → (t.port.banks[b']).row = (s.port.banks[b']).row)
          ∧ Unchanged [.port, .sched, .queries, .window, .counters] s t
          ∧ ∃ u, ChosenFrom s u t ∧ Unchanged [.port] s u ∧ u.port.owed = s.port.owed ∧ (u.port.banks[b]).row = none
              ∧ (u.port.banks[b]).timer = none ∧ ∀ b' : Fin 8, b' ≠ b → keeps u b')
    ∧ (∀ d a : Bool, s.port.inFlight = some ⟨.refresh, none, d, a⟩ →
        ∃ t, exec .refreshComplete s = .next t ∧ t.port.owed = s.port.owed - 1
          ∧ (∀ b : Fin 8, (t.port.banks[b]).row = (s.port.banks[b]).row)
          ∧ Unchanged [.port, .sched, .queries, .window, .counters] s t
          ∧ ∃ u, ChosenFrom s u t ∧ Unchanged [.port] s u ∧ u.port.owed = s.port.owed - 1 ∧ ∀ b : Fin 8, keeps u b)
    ∧ (let stops (c : Instr) : Prop := exec c s = .fault .operationNotInFlight
      let inFlight (op : MemoryOp) : Prop := ∃ o, s.port.inFlight = some o ∧ o.op = op
      ((∀ b row, ¬ inFlight (.openRow b row)) → stops .openComplete) ∧ ((∀ b, ¬ inFlight (.closeRow b)) → stops .closeComplete)
      ∧ (¬ inFlight .refresh → stops .refreshComplete)
      ∧ ((∀ tile word codes, ¬ inFlight (.write tile word codes)) → stops .writeComplete)
      ∧ ((∀ tile word owner, ¬ inFlight (.read tile word owner)) → ∀ upset, stops (.readComplete upset)))

/-- At each READ completion the word is examined whether or not its owner is there: no wrong bit counts nothing, one is
counted as corrected, two as uncorrectable with MEMORY_FAULT set; no data bit of the memory changes and the errors stay
(R132, R141). The wrong bits are the model's form of the check code (log 6). A READ of a tile of 131,072 or more, which does
not exist, stops by name (the model's, log 1). -/
def Obligations.ReadCompletionExaminesTheWord : Prop :=
  ∀ (s : State) (tile word : Nat) (owner : ReadOwner) (sheet : Option Nat) (d a : Bool) (upset : StoredBits),
    s.resetAsserted = false → s.port.inFlight = some ⟨.read tile word owner, sheet, d, a⟩ →
    let address := wordAddress tile word
    let wrong := lookupWrong s.mem.wrong address ^^^ upset
    (131072 ≤ tile → exec (.readComplete upset) s = .fault .noSuchWord)
    ∧ (tile < 131072 → ∃ t, exec (.readComplete upset) s = .next t ∧ t.mem.cells = s.mem.cells
      ∧ (Memory.wf s.mem = true → lookupWrong t.mem.wrong address = wrong
          ∧ ∀ x, x ≠ address → lookupWrong t.mem.wrong x = lookupWrong s.mem.wrong x)
      ∧ (Memory.wf s.mem = true → wordWritten s.mem address = true →
          (wrongCount wrong = 0 → t.counters[cntCorrected] = s.counters[cntCorrected]
            ∧ t.counters[cntUncorrectable] = s.counters[cntUncorrectable]
            ∧ readWord t.mem s.powerOns address = storedWord s.mem s.powerOns address)
          ∧ (wrongCount wrong = 1 → t.counters[cntCorrected] = s.counters[cntCorrected] + 1
            ∧ t.counters[cntUncorrectable] = s.counters[cntUncorrectable]
            ∧ readWord t.mem s.powerOns address = storedWord s.mem s.powerOns address)
          ∧ (wrongCount wrong = 2 → t.counters[cntCorrected] = s.counters[cntCorrected]
            ∧ t.counters[cntUncorrectable] = s.counters[cntUncorrectable] + 1
            ∧ t.notices.pending.getLsbD 4 = true)))

/-- The word a READ returns goes to an owner that is still there: a fetch becomes DONE, and the last of a record answers the
query, counts its reply and removes it; a merge fills the absent lanes of the drain head, with VOID where the word is
uncorrectable, and keeps the carried ones; the window reader places the samples of the word that lie in the window, lowest
column first, in the open chunk, and then the VOID codes that follow them while none of its chunks waits. A chunk goes out
at its cap and the samples left begin the next; the placement that completes the window sends the chunk and answers
READ_WINDOW DONE. A discarded READ does none of this. A RETIRING sheet becomes FREE at the completion of its operation,
whose result goes nowhere, and its close is answered DONE. Either way the port is then free, the bank's timer starts again,
or after a service reset the bank is marked close-wanted with its timer stopped, banks left OPEN with no timer are judged
(log 15), and the choice is made from there (R18, R42, R80, R89, R105, R130, R132, R134, R136, R142, R144, R155, R157, R158,
R179). -/
def Obligations.ReadCompletionHandsTheWordToItsOwner : Prop :=
  (∀ (s : State) (tile word : Nat) (owner : ReadOwner) (sheet : Option Nat) (d a : Bool) (upset : StoredBits),
    s.resetAsserted = false → s.port.inFlight = some ⟨.read tile word owner, sheet, d, a⟩ → tile < 131072 →
    let mem := upsetWord (wordAddress tile word) upset s.mem
    let data := readWord mem s.powerOns (wordAddress tile word)
    let bad : Bool := findingOf mem s.powerOns (wordAddress tile word) == .uncorrectable
    let open_ := ∀ n x, sheet = some n → sheetAt s n = some x → x.state ≠ .retiring
    let fault : List OutRecord :=
      if bad = true ∧ portUp s .c = true ∧ s.notices.pending &&& srcMemoryFault = 0
          ∧ s.settings.noticeEnables &&& srcMemoryFault ≠ 0
        then [.notice ((s.notices.pending ||| srcMemoryFault) &&& s.settings.noticeEnables) s.time.frame (modeOf s)]
        else []
    ∃ t u, exec (.readComplete upset) s = .next t ∧ ChosenFrom s u t ∧ u.port.owed = s.port.owed
      ∧ BankJudged u (bankOf tile) (restartedBank s a s.port.banks[bankOf tile])
      ∧ (∀ b : Fin 8, b ≠ bankOf tile → BankJudged u b s.port.banks[b])
      ∧ (d = true → open_ → Unchanged [.port, .mem, .counters, .notices, .links] s u ∧ RepliesCounted 0 0 0 0 0 s u
          ∧ (∀ p, p ≠ .c → linkOf u p = linkOf s p) ∧ linkOf u .c = { linkOf s .c with toSend := (linkOf s .c).toSend ++ fault })
      ∧ (∀ e rest, d = false → owner = .merge → s.drain.queue = e :: rest → ∃ e' : Entry, t.drain.queue = e' :: rest
          ∧ e'.merge = .merged ∧ e'.tile = e.tile ∧ e'.word = e.word ∧ e'.lanes = e.lanes
          ∧ ∀ l : Fin 4, lane e'.codes l = if e.lanes.getLsbD l then lane e.codes l
              else if bad then 65535 else lane data l)
      ∧ (∀ seq index r, d = false → owner = .fetch seq index → s.queries.records.find? (fun x => x.seq == seq) = some r →
          let deliver (x : QueryRecord) : QueryRecord :=
            { x with fetches := x.fetches.modify index (fun f => { f with state := .done data bad }) }
          let finished := ∀ f ∈ (deliver r).fetches, ∃ w b, f.state = .done w b
          (¬ finished → RepliesCounted 0 0 0 0 0 s t ∧ u.spindles = s.spindles
            ∧ u.queries.records = s.queries.records.map (fun x => if x.seq = seq then deliver x else x))
          ∧ (∀ x, finished → sheetAt s r.sheet = some x →
              let answer := computeAnswer x (deliver r) (s.spindles[r.spindle]).held
              u.queries.records = s.queries.records.filter (fun r' => r'.seq != seq)
              ∧ (∀ r' ∈ t.queries.records, r'.seq ≠ seq)
              ∧ RepliesCounted (if answer.1 = .cut then 1 else 0) (if answer.1 = .cut then 0 else 1) 0 0 0 s t
              ∧ u.spindles = s.spindles.set r.spindle { s.spindles[r.spindle] with held := answer.2.1 }
              ∧ (t.spindles[r.spindle]).held = answer.2.1
              ∧ (portUp s (.s r.spindle) = true → (linkOf t (.s r.spindle)).toSend = (linkOf s (.s r.spindle)).toSend
                ++ [.depthReply r.tag (s.time.frame.setWidth 16) answer.2.1 r.correction answer.1 answer.2.2])))
      ∧ (∀ y k w, d = false → owner = .window y k → s.window = some w → open_ →
          let codes : List Code := ([4 * k, 4 * k + 1, 4 * k + 2, 4 * k + 3].filter
            (fun x => w.column ≤ x ∧ x < w.column + w.width)).map (fun x => if bad then 65535 else lane data (x % 4))
          let cap := if w.chunk = [] then s.settings.chunkCap else w.cap
          let all := w.chunk ++ codes
          let placed := w.placed + codes.length
          let total := w.width * w.height
          let sends (rs : List OutRecord) : Prop := (linkOf u .c).toSend = (linkOf s .c).toSend ++ fault ++ rs
          codes ≠ [] →
          (all.length < cap → placed < total →
            let w' := { w with placed := placed, chunk := all, cap := cap }
            (w.voids = 0 ∨ w.waiting ≠ 0 → u.window = some w' ∧ sends [])
            ∧ (w.waiting = 0 → placed + w.voids ≤ total → portUp s .c = true →
                ∃ rs, sends rs ∧ VoidsPlaced s.settings.chunkCap w' u.window rs))
          ∧ (w.chunk.length < cap → cap ≤ all.length → 4 ≤ s.settings.chunkCap → portUp s .c = true →
              (placed < total → sends [.windowChunk w.tag w.nextIndex (all.take cap)]
                ∧ ∃ v, u.window = some v ∧ v.placed = placed ∧ v.chunk = all.drop cap ∧ v.nextIndex = w.nextIndex + 1
                  ∧ v.hold = 0 ∧ v.waiting = w.waiting + 1 ∧ v.voids = w.voids ∧ v.cursor = w.cursor)
              ∧ (placed = total → cap < all.length → u.window = none
                ∧ sends [.windowChunk w.tag w.nextIndex (all.take cap),
                    .windowChunk w.tag (w.nextIndex + 1) (all.drop cap), .cellReply w.tag 9 .done (.total total)]))
          ∧ (all.length ≤ cap → placed = total → t.window = none
              ∧ (portUp s .c = true →
                  sends [.windowChunk w.tag w.nextIndex all, .cellReply w.tag 9 .done (.total total)])))
      ∧ (open_ → t.sheets = s.sheets)
      ∧ t.mem.cells = s.mem.cells)
  ∧ (∀ (s : State) (tile word : Nat) (owner : ReadOwner) (n : Nat) (x : Sheet) (d a : Bool) (upset : StoredBits),
    s.resetAsserted = false → s.port.inFlight = some ⟨.read tile word owner, some n, d, a⟩ → tile < 131072 →
    sheetAt s n = some x → x.state = .retiring →
    ∃ t, exec (.readComplete upset) s = .next t ∧ sheetAt t n = none ∧ (∀ m, m ≠ n → sheetAt t m = sheetAt s m)
      ∧ (∀ tag, x.closeWaiting = some tag → portUp s .c = true →
          (linkOf t .c).toSend.getLast? = some (.cellReply tag 6 .done .empty))
      ∧ (d = true → t.drain = s.drain ∧ t.spindles = s.spindles ∧ t.mem.cells = s.mem.cells
          ∧ t.queries.records.map (fun r => r.seq) = s.queries.records.map (fun r => r.seq)
          ∧ (∀ w, s.window = some w → ∃ v, t.window = some v ∧ v.chunk = w.chunk ∧ v.placed = w.placed)
          ∧ ∀ m : Fin 6, linkOf t (.s m) = linkOf s (.s m)))

/-- A WRITE's completion stores all four lanes at its address and no other word, with no bit wrong; its entry leaves the
queue and is counted, the base mode is judged, an end-of-row entry raises rows written by one and at H makes the sheet READY
with SHEET_COMPLETE set, the last fill entry makes it LOADING, and a waiting SHEET_READY whose test then holds makes it
READY and is answered DONE. A discarded WRITE has none of these effects, and where its sheet is RETIRING the sheet becomes
FREE and its close is answered DONE. Either way the port is then free, the bank's timer starts again, or after a service
reset the bank is marked close-wanted with its timer stopped, banks left OPEN with no timer are judged (log 15), and the
choice is made from there (R14 to R16, R18, R43, R105, R109, R132, R134, R136, R140, R144). "No bit wrong" is the model's
form of a fresh check code (log 6); a WRITE to a tile of 131,072 or more, which does not exist, stops by name (the model's,
log 1). -/
def Obligations.WriteCompletionStoresTheWordAndRetiresItsEntry : Prop :=
  (∀ (s : State) (tile word : Nat) (codes : CellWord) (sheet : Option Nat) (d a : Bool), s.resetAsserted = false →
    s.port.inFlight = some ⟨.write tile word codes, sheet, d, a⟩ → 131072 ≤ tile →
    exec .writeComplete s = .fault .noSuchWord)
  ∧ (∀ (s : State) (tile word : Nat) (codes : CellWord) (sheet : Option Nat) (d a : Bool), s.resetAsserted = false →
    s.port.inFlight = some ⟨.write tile word codes, sheet, d, a⟩ → tile < 131072 → Memory.wf s.mem = true →
    (∀ n x, sheet = some n → sheetAt s n = some x → x.state ≠ .retiring) →
    ∃ t, exec .writeComplete s = .next t
      ∧ (∀ p, storedWord t.mem p (wordAddress tile word) = codes)
      ∧ wordWritten t.mem (wordAddress tile word) = true ∧ lookupWrong t.mem.wrong (wordAddress tile word) = 0
      ∧ (∀ p x, x ≠ wordAddress tile word → storedWord t.mem p x = storedWord s.mem p x
          ∧ lookupWrong t.mem.wrong x = lookupWrong s.mem.wrong x)
      ∧ (∃ u, ChosenFrom s u t ∧ u.port.owed = s.port.owed ∧ u.queries = s.queries ∧ u.window = s.window
          ∧ u.sched.deadline = s.sched.deadline ∧ u.sched.refreshing = s.sched.refreshing
          ∧ BankJudged u (bankOf tile) (restartedBank s a s.port.banks[bankOf tile])
          ∧ ∀ b : Fin 8, b ≠ bankOf tile → BankJudged u b s.port.banks[b])
      ∧ (d = true → t.drain = s.drain ∧ t.sheets = s.sheets ∧ t.notices = s.notices
          ∧ t.counters[cntDrainWritten] = s.counters[cntDrainWritten])
      ∧ (∀ e rest, d = false → s.drain.queue = e :: rest → t.drain.queue = rest ∧ t.drain.jobs = s.drain.jobs
          ∧ t.counters[cntDrainWritten] = s.counters[cntDrainWritten] + 1
          ∧ BaseModeJudged s t ∧ (∀ n, n ≠ e.sheet → sheetAt t n = sheetAt s n)
          ∧ (∀ x r y, sheetAt s e.sheet = some x → x.kind = .relief r → x.state = .scanning → x.readyWaiting = none →
              e.endOfRow = some y → e.kind = .sweep →
              (r.written + 1 < x.geom.height →
                sheetAt t e.sheet = some { x with kind := .relief { r with written := r.written + 1 } })
              ∧ (r.written + 1 = x.geom.height → sheetAt t e.sheet =
                  some { x with state := .ready, kind := .relief { r with written := r.written + 1 } }
                ∧ t.notices.pending.getLsbD 0 = true))
          ∧ (∀ x f, sheetAt s e.sheet = some x → x.kind = .letter f → x.state = .filling → x.readyWaiting = none →
              e.kind = .fill → e.endOfRow = none →
              sheetAt t e.sheet = some { x with state :=
                if e.tile + 1 = x.geom.base + extentOf x.geom ∧ e.word = 255 then .loading else .filling })
          ∧ (∀ x tag, sheetAt s e.sheet = some x → x.state = .loading → x.readyWaiting = some tag →
              e.endOfRow = none → (∀ j ∈ s.drain.jobs, j.sheetOf ≠ e.sheet) → (∀ e' ∈ rest, e'.sheet ≠ e.sheet) →
              sheetAt t e.sheet = some { x with state := .ready, readyWaiting := none }
              ∧ (portUp s .c = true → (linkOf t .c).toSend = (linkOf s .c).toSend ++ [.cellReply tag 5 .done .empty]))
          ∧ (∀ x f tag, sheetAt s e.sheet = some x → x.kind = .letter f → x.state = .filling → x.readyWaiting = some tag →
              e.kind = .fill → e.endOfRow = none → e.tile + 1 = x.geom.base + extentOf x.geom → e.word = 255 →
              if (∀ j ∈ s.drain.jobs, j.sheetOf ≠ e.sheet) ∧ (∀ e' ∈ rest, e'.sheet ≠ e.sheet) then
                sheetAt t e.sheet = some { x with state := .ready, readyWaiting := none }
                ∧ (portUp s .c = true → (linkOf t .c).toSend = (linkOf s .c).toSend ++ [.cellReply tag 5 .done .empty])
              else sheetAt t e.sheet = some { x with state := .loading } ∧ t.links = s.links)))
  ∧ ∀ (s : State) (tile word : Nat) (codes : CellWord) (n : Nat) (x : Sheet) (a : Bool), s.resetAsserted = false →
    s.port.inFlight = some ⟨.write tile word codes, some n, true, a⟩ → tile < 131072 → sheetAt s n = some x →
    x.state = .retiring →
    ∃ t, exec .writeComplete s = .next t ∧ sheetAt t n = none ∧ (∀ m, m ≠ n → sheetAt t m = sheetAt s m)
      ∧ (∀ p, storedWord t.mem p (wordAddress tile word) = codes) ∧ t.drain = s.drain ∧ t.notices = s.notices
      ∧ t.counters[cntDrainWritten] = s.counters[cntDrainWritten]
      ∧ (∀ tag, x.closeWaiting = some tag → portUp s .c = true →
          (linkOf t .c).toSend = (linkOf s .c).toSend ++ [.cellReply tag 6 .done .empty])
      ∧ ∃ u, ChosenFrom s u t ∧ u.port.owed = s.port.owed ∧ u.queries = s.queries ∧ u.window = s.window
          ∧ BankJudged u (bankOf tile) (restartedBank s a s.port.banks[bankOf tile])
          ∧ ∀ b : Fin 8, b ≠ bankOf tile → BankJudged u b s.port.banks[b]

/-- An expiry of the refresh interval raises refresh owed, or at 8 counts an overrun with MEMORY_FAULT set, a NOTICE going
out at once where it was not pending and is enabled, and the next interval starts; an expired row close timer starts again
where a candidate names the open row, and with ROW_CLOSE_TIME 0 stops there with the bank unmarked, and otherwise the bank
is marked close-wanted with its timer stopped. The choice is made from the state with the new want; a port that is starting
up or busy issues nothing. What has not expired stops by name (R105, R135, R137, R138, R177; the stops are the model's, log
1). -/
def Obligations.RefreshIntervalAndRowTimersExpire : Prop :=
  ∀ s : State, s.resetAsserted = false →
    (s.port.refreshLeft = some 0 → ∃ t, exec .refreshIntervalExpiry s = .next t
        ∧ t.port.refreshLeft = some s.settings.refreshInterval
        ∧ (s.port.owed < 8 → t.port.owed = s.port.owed + 1
            ∧ t = choose (s.setPort { s.port with owed := s.port.owed + 1, refreshLeft := some s.settings.refreshInterval })
            ∧ Unchanged [.port, .sched, .queries, .window, .counters] s t)
        ∧ (8 ≤ s.port.owed → t.port.owed = s.port.owed ∧ t.notices.pending.getLsbD 4 = true
            ∧ t.notices = { s.notices with pending := s.notices.pending ||| srcMemoryFault }
            ∧ t.counters[cntRefreshOverruns] = s.counters[cntRefreshOverruns] + 1
            ∧ linkOf t .c = { linkOf s .c with toSend := (linkOf s .c).toSend ++
                (if portUp s .c = true ∧ s.notices.pending &&& srcMemoryFault = 0
                    ∧ s.settings.noticeEnables &&& srcMemoryFault ≠ 0
                  then [.notice ((s.notices.pending ||| srcMemoryFault) &&& s.settings.noticeEnables) s.time.frame (modeOf s)]
                  else []) }
            ∧ (∀ p, p ≠ .c → linkOf t p = linkOf s p)
            ∧ (∃ u, t = choose u ∧ u.port = { s.port with refreshLeft := some s.settings.refreshInterval }
                ∧ u.counters = s.counters.set cntRefreshOverruns (s.counters[cntRefreshOverruns] + 1)
                ∧ Unchanged [.port, .counters, .notices, .links] s u)
            ∧ Unchanged [.port, .sched, .queries, .window, .counters, .notices, .links] s t))
    ∧ (s.port.refreshLeft ≠ some 0 → exec .refreshIntervalExpiry s = .fault .eventNotDue)
    ∧ (∀ (b : Fin 8) (row : Nat), (s.port.banks[b]).timer = some 0 → (s.port.banks[b]).row = some row →
        let wanted := ∃ tile ∈ candidateTiles s, bankOf tile = b ∧ tile / 8 = row
        ∃ t, exec (.rowCloseTimerExpiry b) s = .next t
          ∧ (wanted → t = setBank b { s.port.banks[b] with timer :=
              if s.settings.rowCloseTime = 0 then none else some s.settings.rowCloseTime } s)
          ∧ (¬ wanted → t = choose (setBank b { s.port.banks[b] with timer := none, closeWanted := true } s))
          ∧ (¬ wanted → s.port.state = .init ∨ s.port.inFlight ≠ none →
              t = setBank b { s.port.banks[b] with timer := none, closeWanted := true } s)
          ∧ (t.port.banks[b]).row = some row ∧ Unchanged [.port, .sched, .queries, .window, .counters] s t)
    ∧ (∀ b : Fin 8, (s.port.banks[b]).timer ≠ some 0 → exec (.rowCloseTimerExpiry b) s = .fault .eventNotDue)

/-! ### Laws of the device, kept by every step -/

/-- Every step keeps the canonical form in which the model holds the attached memory: written bytes at rising addresses (log
5) and the wrong bits of words at rising addresses, none of them empty (log 6). -/
def Obligations.EveryStepKeepsTheMemoryForm : Prop :=
  ∀ s t : State, s.mem.wf = true → step s = .next t → t.mem.wf = true

/-- Every step keeps the extents of the sheets that are not FREE apart (R11). -/
def Obligations.EveryStepKeepsExtentsApart : Prop :=
  ∀ s t : State, ExtentsApart s → step s = .next t → ExtentsApart t

/-- Every step keeps the bounds of the device: four records of a spindle, 64 entries, four requests, refresh owed within 8,
one FILLING sweep, the link counts and the time base's ranges (R23, R40, R48, R49, R79, R137, R160, R161, R167). And every
step keeps the law of the row counts, rows written ≤ rows accepted ≤ H with at most two rows in between, which are the rows
on their way, and the bounds of the job list, two sweep jobs, one fill job and four load jobs, each in a place of its own,
with what they rest on: the FILLING sweep is the next row of its SCANNING sheet, and no work is of a FREE or RETIRING sheet
(R7, R17, R23, R24, R36, R40). And every step keeps the deadline flag set exactly while an urgent record has a WAITING fetch
(R111). -/
def Obligations.EveryStepKeepsTheDeviceBounds : Prop :=
  (∀ s t : State, DeviceBounds s → step s = .next t → DeviceBounds t)
  ∧ (∀ s t : State, RowsAndJobsLawful s → step s = .next t → RowsAndJobsLawful t)
  ∧ ∀ s t : State, DeadlineLawful s → step s = .next t → DeadlineLawful t

/-- A sheet that stays open keeps its geometry, and rows written rises by one at most, at a WRITE completion alone, and
never falls; the frame number stays or rises by one, but for power-on reset, and it rises at FRAME_MARK alone or at a TICK
or TIME_SET, which take a mark that is outstanding (the model's, log 2); and the memory's data changes at a WRITE completion
and at power-on reset alone (R3, R7, R49, R132). -/
def Obligations.RowsFramesAndMemoryChangeByTheirEventsAlone : Prop :=
  ∀ (c : Instr) (s t : State), exec c s = .next t →
    (∀ n x y, sheetAt s n = some x → sheetAt t n = some y → y.geom = x.geom
      ∧ ∀ r r', x.kind = .relief r → y.kind = .relief r' →
          (r'.written = r.written ∨ r'.written = r.written + 1) ∧ (c ≠ .writeComplete → r'.written = r.written))
    ∧ (c ≠ .powerOnReset → t.time.frame = s.time.frame ∨ t.time.frame = s.time.frame + 1)
    ∧ (c ≠ .frameMark → c ≠ .tick → (∀ tag v, c ≠ .timeSet tag v) → c ≠ .powerOnReset → t.time.frame = s.time.frame)
    ∧ (c ≠ .writeComplete → c ≠ .powerOnReset → t.mem.cells = s.mem.cells)

/-- The state after power-on reset meets every law that each step keeps. -/
def Obligations.ResetMeetsTheLaws : Prop :=
  State.reset.mem.wf = true ∧ ExtentsApart State.reset ∧ DeviceBounds State.reset ∧ RowsAndJobsLawful State.reset
    ∧ DeadlineLawful State.reset

/-! ### Records -/

/-- Decoding the record that carries a well-formed command gives that command back, whatever its operands (R162 to
R165). -/
def Obligations.RecordsDecodeToTheCommandTheyCarry : Prop :=
  ∀ (i : Instr) (p : Port) (bytes : List Byte), i.wellFormed = true → encodeRecord i = some (p, bytes) →
    decodeRecord p bytes = some i
end

