-- ==== Sys2Proof/Laws/State.lean ====
section
/-! SUPPORT. One lemma per field per update of State: no later proof unfolds a record update. -/

namespace Sys2Proof.Machine

variable (s : State)

@[simp] theorem State.setSheets_resetAsserted (x : Vector (Option Sheet) 16) : (State.setSheets x s).resetAsserted = s.resetAsserted := rfl
@[simp] theorem State.setSheets_powerOns (x : Vector (Option Sheet) 16) : (State.setSheets x s).powerOns = s.powerOns := rfl
@[simp] theorem State.setSheets_sheets (x : Vector (Option Sheet) 16) : (State.setSheets x s).sheets = x := rfl
@[simp] theorem State.setSheets_ingest (x : Vector (Option Sheet) 16) : (State.setSheets x s).ingest = s.ingest := rfl
@[simp] theorem State.setSheets_drain (x : Vector (Option Sheet) 16) : (State.setSheets x s).drain = s.drain := rfl
@[simp] theorem State.setSheets_time (x : Vector (Option Sheet) 16) : (State.setSheets x s).time = s.time := rfl
@[simp] theorem State.setSheets_spindles (x : Vector (Option Sheet) 16) : (State.setSheets x s).spindles = s.spindles := rfl
@[simp] theorem State.setSheets_queries (x : Vector (Option Sheet) 16) : (State.setSheets x s).queries = s.queries := rfl
@[simp] theorem State.setSheets_sched (x : Vector (Option Sheet) 16) : (State.setSheets x s).sched = s.sched := rfl
@[simp] theorem State.setSheets_port (x : Vector (Option Sheet) 16) : (State.setSheets x s).port = s.port := rfl
@[simp] theorem State.setSheets_mem (x : Vector (Option Sheet) 16) : (State.setSheets x s).mem = s.mem := rfl
@[simp] theorem State.setSheets_buffers (x : Vector (Option Sheet) 16) : (State.setSheets x s).buffers = s.buffers := rfl
@[simp] theorem State.setSheets_window (x : Vector (Option Sheet) 16) : (State.setSheets x s).window = s.window := rfl
@[simp] theorem State.setSheets_links (x : Vector (Option Sheet) 16) : (State.setSheets x s).links = s.links := rfl
@[simp] theorem State.setSheets_cellQueue (x : Vector (Option Sheet) 16) : (State.setSheets x s).cellQueue = s.cellQueue := rfl
@[simp] theorem State.setSheets_settings (x : Vector (Option Sheet) 16) : (State.setSheets x s).settings = s.settings := rfl
@[simp] theorem State.setSheets_notices (x : Vector (Option Sheet) 16) : (State.setSheets x s).notices = s.notices := rfl
@[simp] theorem State.setSheets_counters (x : Vector (Option Sheet) 16) : (State.setSheets x s).counters = s.counters := rfl
@[simp] theorem State.setSheets_pending (x : Vector (Option Sheet) 16) : (State.setSheets x s).pending = s.pending := rfl
@[simp] theorem State.setIngest_resetAsserted (x : Ingest) : (State.setIngest x s).resetAsserted = s.resetAsserted := rfl
@[simp] theorem State.setIngest_powerOns (x : Ingest) : (State.setIngest x s).powerOns = s.powerOns := rfl
@[simp] theorem State.setIngest_sheets (x : Ingest) : (State.setIngest x s).sheets = s.sheets := rfl
@[simp] theorem State.setIngest_ingest (x : Ingest) : (State.setIngest x s).ingest = x := rfl
@[simp] theorem State.setIngest_drain (x : Ingest) : (State.setIngest x s).drain = s.drain := rfl
@[simp] theorem State.setIngest_time (x : Ingest) : (State.setIngest x s).time = s.time := rfl
@[simp] theorem State.setIngest_spindles (x : Ingest) : (State.setIngest x s).spindles = s.spindles := rfl
@[simp] theorem State.setIngest_queries (x : Ingest) : (State.setIngest x s).queries = s.queries := rfl
@[simp] theorem State.setIngest_sched (x : Ingest) : (State.setIngest x s).sched = s.sched := rfl
@[simp] theorem State.setIngest_port (x : Ingest) : (State.setIngest x s).port = s.port := rfl
@[simp] theorem State.setIngest_mem (x : Ingest) : (State.setIngest x s).mem = s.mem := rfl
@[simp] theorem State.setIngest_buffers (x : Ingest) : (State.setIngest x s).buffers = s.buffers := rfl
@[simp] theorem State.setIngest_window (x : Ingest) : (State.setIngest x s).window = s.window := rfl
@[simp] theorem State.setIngest_links (x : Ingest) : (State.setIngest x s).links = s.links := rfl
@[simp] theorem State.setIngest_cellQueue (x : Ingest) : (State.setIngest x s).cellQueue = s.cellQueue := rfl
@[simp] theorem State.setIngest_settings (x : Ingest) : (State.setIngest x s).settings = s.settings := rfl
@[simp] theorem State.setIngest_notices (x : Ingest) : (State.setIngest x s).notices = s.notices := rfl
@[simp] theorem State.setIngest_counters (x : Ingest) : (State.setIngest x s).counters = s.counters := rfl
@[simp] theorem State.setIngest_pending (x : Ingest) : (State.setIngest x s).pending = s.pending := rfl
@[simp] theorem State.setDrain_resetAsserted (x : Drain) : (State.setDrain x s).resetAsserted = s.resetAsserted := rfl
@[simp] theorem State.setDrain_powerOns (x : Drain) : (State.setDrain x s).powerOns = s.powerOns := rfl
@[simp] theorem State.setDrain_sheets (x : Drain) : (State.setDrain x s).sheets = s.sheets := rfl
@[simp] theorem State.setDrain_ingest (x : Drain) : (State.setDrain x s).ingest = s.ingest := rfl
@[simp] theorem State.setDrain_drain (x : Drain) : (State.setDrain x s).drain = x := rfl
@[simp] theorem State.setDrain_time (x : Drain) : (State.setDrain x s).time = s.time := rfl
@[simp] theorem State.setDrain_spindles (x : Drain) : (State.setDrain x s).spindles = s.spindles := rfl
@[simp] theorem State.setDrain_queries (x : Drain) : (State.setDrain x s).queries = s.queries := rfl
@[simp] theorem State.setDrain_sched (x : Drain) : (State.setDrain x s).sched = s.sched := rfl
@[simp] theorem State.setDrain_port (x : Drain) : (State.setDrain x s).port = s.port := rfl
@[simp] theorem State.setDrain_mem (x : Drain) : (State.setDrain x s).mem = s.mem := rfl
@[simp] theorem State.setDrain_buffers (x : Drain) : (State.setDrain x s).buffers = s.buffers := rfl
@[simp] theorem State.setDrain_window (x : Drain) : (State.setDrain x s).window = s.window := rfl
@[simp] theorem State.setDrain_links (x : Drain) : (State.setDrain x s).links = s.links := rfl
@[simp] theorem State.setDrain_cellQueue (x : Drain) : (State.setDrain x s).cellQueue = s.cellQueue := rfl
@[simp] theorem State.setDrain_settings (x : Drain) : (State.setDrain x s).settings = s.settings := rfl
@[simp] theorem State.setDrain_notices (x : Drain) : (State.setDrain x s).notices = s.notices := rfl
@[simp] theorem State.setDrain_counters (x : Drain) : (State.setDrain x s).counters = s.counters := rfl
@[simp] theorem State.setDrain_pending (x : Drain) : (State.setDrain x s).pending = s.pending := rfl
@[simp] theorem State.setTime_resetAsserted (x : TimeBase) : (State.setTime x s).resetAsserted = s.resetAsserted := rfl
@[simp] theorem State.setTime_powerOns (x : TimeBase) : (State.setTime x s).powerOns = s.powerOns := rfl
@[simp] theorem State.setTime_sheets (x : TimeBase) : (State.setTime x s).sheets = s.sheets := rfl
@[simp] theorem State.setTime_ingest (x : TimeBase) : (State.setTime x s).ingest = s.ingest := rfl
@[simp] theorem State.setTime_drain (x : TimeBase) : (State.setTime x s).drain = s.drain := rfl
@[simp] theorem State.setTime_time (x : TimeBase) : (State.setTime x s).time = x := rfl
@[simp] theorem State.setTime_spindles (x : TimeBase) : (State.setTime x s).spindles = s.spindles := rfl
@[simp] theorem State.setTime_queries (x : TimeBase) : (State.setTime x s).queries = s.queries := rfl
@[simp] theorem State.setTime_sched (x : TimeBase) : (State.setTime x s).sched = s.sched := rfl
@[simp] theorem State.setTime_port (x : TimeBase) : (State.setTime x s).port = s.port := rfl
@[simp] theorem State.setTime_mem (x : TimeBase) : (State.setTime x s).mem = s.mem := rfl
@[simp] theorem State.setTime_buffers (x : TimeBase) : (State.setTime x s).buffers = s.buffers := rfl
@[simp] theorem State.setTime_window (x : TimeBase) : (State.setTime x s).window = s.window := rfl
@[simp] theorem State.setTime_links (x : TimeBase) : (State.setTime x s).links = s.links := rfl
@[simp] theorem State.setTime_cellQueue (x : TimeBase) : (State.setTime x s).cellQueue = s.cellQueue := rfl
@[simp] theorem State.setTime_settings (x : TimeBase) : (State.setTime x s).settings = s.settings := rfl
@[simp] theorem State.setTime_notices (x : TimeBase) : (State.setTime x s).notices = s.notices := rfl
@[simp] theorem State.setTime_counters (x : TimeBase) : (State.setTime x s).counters = s.counters := rfl
@[simp] theorem State.setTime_pending (x : TimeBase) : (State.setTime x s).pending = s.pending := rfl
@[simp] theorem State.setSpindles_resetAsserted (x : Vector Context 6) : (State.setSpindles x s).resetAsserted = s.resetAsserted := rfl
@[simp] theorem State.setSpindles_powerOns (x : Vector Context 6) : (State.setSpindles x s).powerOns = s.powerOns := rfl
@[simp] theorem State.setSpindles_sheets (x : Vector Context 6) : (State.setSpindles x s).sheets = s.sheets := rfl
@[simp] theorem State.setSpindles_ingest (x : Vector Context 6) : (State.setSpindles x s).ingest = s.ingest := rfl
@[simp] theorem State.setSpindles_drain (x : Vector Context 6) : (State.setSpindles x s).drain = s.drain := rfl
@[simp] theorem State.setSpindles_time (x : Vector Context 6) : (State.setSpindles x s).time = s.time := rfl
@[simp] theorem State.setSpindles_spindles (x : Vector Context 6) : (State.setSpindles x s).spindles = x := rfl
@[simp] theorem State.setSpindles_queries (x : Vector Context 6) : (State.setSpindles x s).queries = s.queries := rfl
@[simp] theorem State.setSpindles_sched (x : Vector Context 6) : (State.setSpindles x s).sched = s.sched := rfl
@[simp] theorem State.setSpindles_port (x : Vector Context 6) : (State.setSpindles x s).port = s.port := rfl
@[simp] theorem State.setSpindles_mem (x : Vector Context 6) : (State.setSpindles x s).mem = s.mem := rfl
@[simp] theorem State.setSpindles_buffers (x : Vector Context 6) : (State.setSpindles x s).buffers = s.buffers := rfl
@[simp] theorem State.setSpindles_window (x : Vector Context 6) : (State.setSpindles x s).window = s.window := rfl
@[simp] theorem State.setSpindles_links (x : Vector Context 6) : (State.setSpindles x s).links = s.links := rfl
@[simp] theorem State.setSpindles_cellQueue (x : Vector Context 6) : (State.setSpindles x s).cellQueue = s.cellQueue := rfl
@[simp] theorem State.setSpindles_settings (x : Vector Context 6) : (State.setSpindles x s).settings = s.settings := rfl
@[simp] theorem State.setSpindles_notices (x : Vector Context 6) : (State.setSpindles x s).notices = s.notices := rfl
@[simp] theorem State.setSpindles_counters (x : Vector Context 6) : (State.setSpindles x s).counters = s.counters := rfl
@[simp] theorem State.setSpindles_pending (x : Vector Context 6) : (State.setSpindles x s).pending = s.pending := rfl
@[simp] theorem State.setQueries_resetAsserted (x : QueryTable) : (State.setQueries x s).resetAsserted = s.resetAsserted := rfl
@[simp] theorem State.setQueries_powerOns (x : QueryTable) : (State.setQueries x s).powerOns = s.powerOns := rfl
@[simp] theorem State.setQueries_sheets (x : QueryTable) : (State.setQueries x s).sheets = s.sheets := rfl
@[simp] theorem State.setQueries_ingest (x : QueryTable) : (State.setQueries x s).ingest = s.ingest := rfl
@[simp] theorem State.setQueries_drain (x : QueryTable) : (State.setQueries x s).drain = s.drain := rfl
@[simp] theorem State.setQueries_time (x : QueryTable) : (State.setQueries x s).time = s.time := rfl
@[simp] theorem State.setQueries_spindles (x : QueryTable) : (State.setQueries x s).spindles = s.spindles := rfl
@[simp] theorem State.setQueries_queries (x : QueryTable) : (State.setQueries x s).queries = x := rfl
@[simp] theorem State.setQueries_sched (x : QueryTable) : (State.setQueries x s).sched = s.sched := rfl
@[simp] theorem State.setQueries_port (x : QueryTable) : (State.setQueries x s).port = s.port := rfl
@[simp] theorem State.setQueries_mem (x : QueryTable) : (State.setQueries x s).mem = s.mem := rfl
@[simp] theorem State.setQueries_buffers (x : QueryTable) : (State.setQueries x s).buffers = s.buffers := rfl
@[simp] theorem State.setQueries_window (x : QueryTable) : (State.setQueries x s).window = s.window := rfl
@[simp] theorem State.setQueries_links (x : QueryTable) : (State.setQueries x s).links = s.links := rfl
@[simp] theorem State.setQueries_cellQueue (x : QueryTable) : (State.setQueries x s).cellQueue = s.cellQueue := rfl
@[simp] theorem State.setQueries_settings (x : QueryTable) : (State.setQueries x s).settings = s.settings := rfl
@[simp] theorem State.setQueries_notices (x : QueryTable) : (State.setQueries x s).notices = s.notices := rfl
@[simp] theorem State.setQueries_counters (x : QueryTable) : (State.setQueries x s).counters = s.counters := rfl
@[simp] theorem State.setQueries_pending (x : QueryTable) : (State.setQueries x s).pending = s.pending := rfl
@[simp] theorem State.setSched_resetAsserted (x : Scheduler) : (State.setSched x s).resetAsserted = s.resetAsserted := rfl
@[simp] theorem State.setSched_powerOns (x : Scheduler) : (State.setSched x s).powerOns = s.powerOns := rfl
@[simp] theorem State.setSched_sheets (x : Scheduler) : (State.setSched x s).sheets = s.sheets := rfl
@[simp] theorem State.setSched_ingest (x : Scheduler) : (State.setSched x s).ingest = s.ingest := rfl
@[simp] theorem State.setSched_drain (x : Scheduler) : (State.setSched x s).drain = s.drain := rfl
@[simp] theorem State.setSched_time (x : Scheduler) : (State.setSched x s).time = s.time := rfl
@[simp] theorem State.setSched_spindles (x : Scheduler) : (State.setSched x s).spindles = s.spindles := rfl
@[simp] theorem State.setSched_queries (x : Scheduler) : (State.setSched x s).queries = s.queries := rfl
@[simp] theorem State.setSched_sched (x : Scheduler) : (State.setSched x s).sched = x := rfl
@[simp] theorem State.setSched_port (x : Scheduler) : (State.setSched x s).port = s.port := rfl
@[simp] theorem State.setSched_mem (x : Scheduler) : (State.setSched x s).mem = s.mem := rfl
@[simp] theorem State.setSched_buffers (x : Scheduler) : (State.setSched x s).buffers = s.buffers := rfl
@[simp] theorem State.setSched_window (x : Scheduler) : (State.setSched x s).window = s.window := rfl
@[simp] theorem State.setSched_links (x : Scheduler) : (State.setSched x s).links = s.links := rfl
@[simp] theorem State.setSched_cellQueue (x : Scheduler) : (State.setSched x s).cellQueue = s.cellQueue := rfl
@[simp] theorem State.setSched_settings (x : Scheduler) : (State.setSched x s).settings = s.settings := rfl
@[simp] theorem State.setSched_notices (x : Scheduler) : (State.setSched x s).notices = s.notices := rfl
@[simp] theorem State.setSched_counters (x : Scheduler) : (State.setSched x s).counters = s.counters := rfl
@[simp] theorem State.setSched_pending (x : Scheduler) : (State.setSched x s).pending = s.pending := rfl
@[simp] theorem State.setPort_resetAsserted (x : MemoryPort) : (State.setPort x s).resetAsserted = s.resetAsserted := rfl
@[simp] theorem State.setPort_powerOns (x : MemoryPort) : (State.setPort x s).powerOns = s.powerOns := rfl
@[simp] theorem State.setPort_sheets (x : MemoryPort) : (State.setPort x s).sheets = s.sheets := rfl
@[simp] theorem State.setPort_ingest (x : MemoryPort) : (State.setPort x s).ingest = s.ingest := rfl
@[simp] theorem State.setPort_drain (x : MemoryPort) : (State.setPort x s).drain = s.drain := rfl
@[simp] theorem State.setPort_time (x : MemoryPort) : (State.setPort x s).time = s.time := rfl
@[simp] theorem State.setPort_spindles (x : MemoryPort) : (State.setPort x s).spindles = s.spindles := rfl
@[simp] theorem State.setPort_queries (x : MemoryPort) : (State.setPort x s).queries = s.queries := rfl
@[simp] theorem State.setPort_sched (x : MemoryPort) : (State.setPort x s).sched = s.sched := rfl
@[simp] theorem State.setPort_port (x : MemoryPort) : (State.setPort x s).port = x := rfl
@[simp] theorem State.setPort_mem (x : MemoryPort) : (State.setPort x s).mem = s.mem := rfl
@[simp] theorem State.setPort_buffers (x : MemoryPort) : (State.setPort x s).buffers = s.buffers := rfl
@[simp] theorem State.setPort_window (x : MemoryPort) : (State.setPort x s).window = s.window := rfl
@[simp] theorem State.setPort_links (x : MemoryPort) : (State.setPort x s).links = s.links := rfl
@[simp] theorem State.setPort_cellQueue (x : MemoryPort) : (State.setPort x s).cellQueue = s.cellQueue := rfl
@[simp] theorem State.setPort_settings (x : MemoryPort) : (State.setPort x s).settings = s.settings := rfl
@[simp] theorem State.setPort_notices (x : MemoryPort) : (State.setPort x s).notices = s.notices := rfl
@[simp] theorem State.setPort_counters (x : MemoryPort) : (State.setPort x s).counters = s.counters := rfl
@[simp] theorem State.setPort_pending (x : MemoryPort) : (State.setPort x s).pending = s.pending := rfl
@[simp] theorem State.setMem_resetAsserted (x : Memory) : (State.setMem x s).resetAsserted = s.resetAsserted := rfl
@[simp] theorem State.setMem_powerOns (x : Memory) : (State.setMem x s).powerOns = s.powerOns := rfl
@[simp] theorem State.setMem_sheets (x : Memory) : (State.setMem x s).sheets = s.sheets := rfl
@[simp] theorem State.setMem_ingest (x : Memory) : (State.setMem x s).ingest = s.ingest := rfl
@[simp] theorem State.setMem_drain (x : Memory) : (State.setMem x s).drain = s.drain := rfl
@[simp] theorem State.setMem_time (x : Memory) : (State.setMem x s).time = s.time := rfl
@[simp] theorem State.setMem_spindles (x : Memory) : (State.setMem x s).spindles = s.spindles := rfl
@[simp] theorem State.setMem_queries (x : Memory) : (State.setMem x s).queries = s.queries := rfl
@[simp] theorem State.setMem_sched (x : Memory) : (State.setMem x s).sched = s.sched := rfl
@[simp] theorem State.setMem_port (x : Memory) : (State.setMem x s).port = s.port := rfl
@[simp] theorem State.setMem_mem (x : Memory) : (State.setMem x s).mem = x := rfl
@[simp] theorem State.setMem_buffers (x : Memory) : (State.setMem x s).buffers = s.buffers := rfl
@[simp] theorem State.setMem_window (x : Memory) : (State.setMem x s).window = s.window := rfl
@[simp] theorem State.setMem_links (x : Memory) : (State.setMem x s).links = s.links := rfl
@[simp] theorem State.setMem_cellQueue (x : Memory) : (State.setMem x s).cellQueue = s.cellQueue := rfl
@[simp] theorem State.setMem_settings (x : Memory) : (State.setMem x s).settings = s.settings := rfl
@[simp] theorem State.setMem_notices (x : Memory) : (State.setMem x s).notices = s.notices := rfl
@[simp] theorem State.setMem_counters (x : Memory) : (State.setMem x s).counters = s.counters := rfl
@[simp] theorem State.setMem_pending (x : Memory) : (State.setMem x s).pending = s.pending := rfl
@[simp] theorem State.setBuffers_resetAsserted (x : Vector (Option (List Code)) 4) : (State.setBuffers x s).resetAsserted = s.resetAsserted := rfl
@[simp] theorem State.setBuffers_powerOns (x : Vector (Option (List Code)) 4) : (State.setBuffers x s).powerOns = s.powerOns := rfl
@[simp] theorem State.setBuffers_sheets (x : Vector (Option (List Code)) 4) : (State.setBuffers x s).sheets = s.sheets := rfl
@[simp] theorem State.setBuffers_ingest (x : Vector (Option (List Code)) 4) : (State.setBuffers x s).ingest = s.ingest := rfl
@[simp] theorem State.setBuffers_drain (x : Vector (Option (List Code)) 4) : (State.setBuffers x s).drain = s.drain := rfl
@[simp] theorem State.setBuffers_time (x : Vector (Option (List Code)) 4) : (State.setBuffers x s).time = s.time := rfl
@[simp] theorem State.setBuffers_spindles (x : Vector (Option (List Code)) 4) : (State.setBuffers x s).spindles = s.spindles := rfl
@[simp] theorem State.setBuffers_queries (x : Vector (Option (List Code)) 4) : (State.setBuffers x s).queries = s.queries := rfl
@[simp] theorem State.setBuffers_sched (x : Vector (Option (List Code)) 4) : (State.setBuffers x s).sched = s.sched := rfl
@[simp] theorem State.setBuffers_port (x : Vector (Option (List Code)) 4) : (State.setBuffers x s).port = s.port := rfl
@[simp] theorem State.setBuffers_mem (x : Vector (Option (List Code)) 4) : (State.setBuffers x s).mem = s.mem := rfl
@[simp] theorem State.setBuffers_buffers (x : Vector (Option (List Code)) 4) : (State.setBuffers x s).buffers = x := rfl
@[simp] theorem State.setBuffers_window (x : Vector (Option (List Code)) 4) : (State.setBuffers x s).window = s.window := rfl
@[simp] theorem State.setBuffers_links (x : Vector (Option (List Code)) 4) : (State.setBuffers x s).links = s.links := rfl
@[simp] theorem State.setBuffers_cellQueue (x : Vector (Option (List Code)) 4) : (State.setBuffers x s).cellQueue = s.cellQueue := rfl
@[simp] theorem State.setBuffers_settings (x : Vector (Option (List Code)) 4) : (State.setBuffers x s).settings = s.settings := rfl
@[simp] theorem State.setBuffers_notices (x : Vector (Option (List Code)) 4) : (State.setBuffers x s).notices = s.notices := rfl
@[simp] theorem State.setBuffers_counters (x : Vector (Option (List Code)) 4) : (State.setBuffers x s).counters = s.counters := rfl
@[simp] theorem State.setBuffers_pending (x : Vector (Option (List Code)) 4) : (State.setBuffers x s).pending = s.pending := rfl
@[simp] theorem State.setWindow_resetAsserted (x : Option WindowRead) : (State.setWindow x s).resetAsserted = s.resetAsserted := rfl
@[simp] theorem State.setWindow_powerOns (x : Option WindowRead) : (State.setWindow x s).powerOns = s.powerOns := rfl
@[simp] theorem State.setWindow_sheets (x : Option WindowRead) : (State.setWindow x s).sheets = s.sheets := rfl
@[simp] theorem State.setWindow_ingest (x : Option WindowRead) : (State.setWindow x s).ingest = s.ingest := rfl
@[simp] theorem State.setWindow_drain (x : Option WindowRead) : (State.setWindow x s).drain = s.drain := rfl
@[simp] theorem State.setWindow_time (x : Option WindowRead) : (State.setWindow x s).time = s.time := rfl
@[simp] theorem State.setWindow_spindles (x : Option WindowRead) : (State.setWindow x s).spindles = s.spindles := rfl
@[simp] theorem State.setWindow_queries (x : Option WindowRead) : (State.setWindow x s).queries = s.queries := rfl
@[simp] theorem State.setWindow_sched (x : Option WindowRead) : (State.setWindow x s).sched = s.sched := rfl
@[simp] theorem State.setWindow_port (x : Option WindowRead) : (State.setWindow x s).port = s.port := rfl
@[simp] theorem State.setWindow_mem (x : Option WindowRead) : (State.setWindow x s).mem = s.mem := rfl
@[simp] theorem State.setWindow_buffers (x : Option WindowRead) : (State.setWindow x s).buffers = s.buffers := rfl
@[simp] theorem State.setWindow_window (x : Option WindowRead) : (State.setWindow x s).window = x := rfl
@[simp] theorem State.setWindow_links (x : Option WindowRead) : (State.setWindow x s).links = s.links := rfl
@[simp] theorem State.setWindow_cellQueue (x : Option WindowRead) : (State.setWindow x s).cellQueue = s.cellQueue := rfl
@[simp] theorem State.setWindow_settings (x : Option WindowRead) : (State.setWindow x s).settings = s.settings := rfl
@[simp] theorem State.setWindow_notices (x : Option WindowRead) : (State.setWindow x s).notices = s.notices := rfl
@[simp] theorem State.setWindow_counters (x : Option WindowRead) : (State.setWindow x s).counters = s.counters := rfl
@[simp] theorem State.setWindow_pending (x : Option WindowRead) : (State.setWindow x s).pending = s.pending := rfl
@[simp] theorem State.setLinks_resetAsserted (x : Vector Link 8) : (State.setLinks x s).resetAsserted = s.resetAsserted := rfl
@[simp] theorem State.setLinks_powerOns (x : Vector Link 8) : (State.setLinks x s).powerOns = s.powerOns := rfl
@[simp] theorem State.setLinks_sheets (x : Vector Link 8) : (State.setLinks x s).sheets = s.sheets := rfl
@[simp] theorem State.setLinks_ingest (x : Vector Link 8) : (State.setLinks x s).ingest = s.ingest := rfl
@[simp] theorem State.setLinks_drain (x : Vector Link 8) : (State.setLinks x s).drain = s.drain := rfl
@[simp] theorem State.setLinks_time (x : Vector Link 8) : (State.setLinks x s).time = s.time := rfl
@[simp] theorem State.setLinks_spindles (x : Vector Link 8) : (State.setLinks x s).spindles = s.spindles := rfl
@[simp] theorem State.setLinks_queries (x : Vector Link 8) : (State.setLinks x s).queries = s.queries := rfl
@[simp] theorem State.setLinks_sched (x : Vector Link 8) : (State.setLinks x s).sched = s.sched := rfl
@[simp] theorem State.setLinks_port (x : Vector Link 8) : (State.setLinks x s).port = s.port := rfl
@[simp] theorem State.setLinks_mem (x : Vector Link 8) : (State.setLinks x s).mem = s.mem := rfl
@[simp] theorem State.setLinks_buffers (x : Vector Link 8) : (State.setLinks x s).buffers = s.buffers := rfl
@[simp] theorem State.setLinks_window (x : Vector Link 8) : (State.setLinks x s).window = s.window := rfl
@[simp] theorem State.setLinks_links (x : Vector Link 8) : (State.setLinks x s).links = x := rfl
@[simp] theorem State.setLinks_cellQueue (x : Vector Link 8) : (State.setLinks x s).cellQueue = s.cellQueue := rfl
@[simp] theorem State.setLinks_settings (x : Vector Link 8) : (State.setLinks x s).settings = s.settings := rfl
@[simp] theorem State.setLinks_notices (x : Vector Link 8) : (State.setLinks x s).notices = s.notices := rfl
@[simp] theorem State.setLinks_counters (x : Vector Link 8) : (State.setLinks x s).counters = s.counters := rfl
@[simp] theorem State.setLinks_pending (x : Vector Link 8) : (State.setLinks x s).pending = s.pending := rfl
@[simp] theorem State.setCellQueue_resetAsserted (x : List Request) : (State.setCellQueue x s).resetAsserted = s.resetAsserted := rfl
@[simp] theorem State.setCellQueue_powerOns (x : List Request) : (State.setCellQueue x s).powerOns = s.powerOns := rfl
@[simp] theorem State.setCellQueue_sheets (x : List Request) : (State.setCellQueue x s).sheets = s.sheets := rfl
@[simp] theorem State.setCellQueue_ingest (x : List Request) : (State.setCellQueue x s).ingest = s.ingest := rfl
@[simp] theorem State.setCellQueue_drain (x : List Request) : (State.setCellQueue x s).drain = s.drain := rfl
@[simp] theorem State.setCellQueue_time (x : List Request) : (State.setCellQueue x s).time = s.time := rfl
@[simp] theorem State.setCellQueue_spindles (x : List Request) : (State.setCellQueue x s).spindles = s.spindles := rfl
@[simp] theorem State.setCellQueue_queries (x : List Request) : (State.setCellQueue x s).queries = s.queries := rfl
@[simp] theorem State.setCellQueue_sched (x : List Request) : (State.setCellQueue x s).sched = s.sched := rfl
@[simp] theorem State.setCellQueue_port (x : List Request) : (State.setCellQueue x s).port = s.port := rfl
@[simp] theorem State.setCellQueue_mem (x : List Request) : (State.setCellQueue x s).mem = s.mem := rfl
@[simp] theorem State.setCellQueue_buffers (x : List Request) : (State.setCellQueue x s).buffers = s.buffers := rfl
@[simp] theorem State.setCellQueue_window (x : List Request) : (State.setCellQueue x s).window = s.window := rfl
@[simp] theorem State.setCellQueue_links (x : List Request) : (State.setCellQueue x s).links = s.links := rfl
@[simp] theorem State.setCellQueue_cellQueue (x : List Request) : (State.setCellQueue x s).cellQueue = x := rfl
@[simp] theorem State.setCellQueue_settings (x : List Request) : (State.setCellQueue x s).settings = s.settings := rfl
@[simp] theorem State.setCellQueue_notices (x : List Request) : (State.setCellQueue x s).notices = s.notices := rfl
@[simp] theorem State.setCellQueue_counters (x : List Request) : (State.setCellQueue x s).counters = s.counters := rfl
@[simp] theorem State.setCellQueue_pending (x : List Request) : (State.setCellQueue x s).pending = s.pending := rfl
@[simp] theorem State.setSettings_resetAsserted (x : Settings) : (State.setSettings x s).resetAsserted = s.resetAsserted := rfl
@[simp] theorem State.setSettings_powerOns (x : Settings) : (State.setSettings x s).powerOns = s.powerOns := rfl
@[simp] theorem State.setSettings_sheets (x : Settings) : (State.setSettings x s).sheets = s.sheets := rfl
@[simp] theorem State.setSettings_ingest (x : Settings) : (State.setSettings x s).ingest = s.ingest := rfl
@[simp] theorem State.setSettings_drain (x : Settings) : (State.setSettings x s).drain = s.drain := rfl
@[simp] theorem State.setSettings_time (x : Settings) : (State.setSettings x s).time = s.time := rfl
@[simp] theorem State.setSettings_spindles (x : Settings) : (State.setSettings x s).spindles = s.spindles := rfl
@[simp] theorem State.setSettings_queries (x : Settings) : (State.setSettings x s).queries = s.queries := rfl
@[simp] theorem State.setSettings_sched (x : Settings) : (State.setSettings x s).sched = s.sched := rfl
@[simp] theorem State.setSettings_port (x : Settings) : (State.setSettings x s).port = s.port := rfl
@[simp] theorem State.setSettings_mem (x : Settings) : (State.setSettings x s).mem = s.mem := rfl
@[simp] theorem State.setSettings_buffers (x : Settings) : (State.setSettings x s).buffers = s.buffers := rfl
@[simp] theorem State.setSettings_window (x : Settings) : (State.setSettings x s).window = s.window := rfl
@[simp] theorem State.setSettings_links (x : Settings) : (State.setSettings x s).links = s.links := rfl
@[simp] theorem State.setSettings_cellQueue (x : Settings) : (State.setSettings x s).cellQueue = s.cellQueue := rfl
@[simp] theorem State.setSettings_settings (x : Settings) : (State.setSettings x s).settings = x := rfl
@[simp] theorem State.setSettings_notices (x : Settings) : (State.setSettings x s).notices = s.notices := rfl
@[simp] theorem State.setSettings_counters (x : Settings) : (State.setSettings x s).counters = s.counters := rfl
@[simp] theorem State.setSettings_pending (x : Settings) : (State.setSettings x s).pending = s.pending := rfl
@[simp] theorem State.setNotices_resetAsserted (x : Notices) : (State.setNotices x s).resetAsserted = s.resetAsserted := rfl
@[simp] theorem State.setNotices_powerOns (x : Notices) : (State.setNotices x s).powerOns = s.powerOns := rfl
@[simp] theorem State.setNotices_sheets (x : Notices) : (State.setNotices x s).sheets = s.sheets := rfl
@[simp] theorem State.setNotices_ingest (x : Notices) : (State.setNotices x s).ingest = s.ingest := rfl
@[simp] theorem State.setNotices_drain (x : Notices) : (State.setNotices x s).drain = s.drain := rfl
@[simp] theorem State.setNotices_time (x : Notices) : (State.setNotices x s).time = s.time := rfl
@[simp] theorem State.setNotices_spindles (x : Notices) : (State.setNotices x s).spindles = s.spindles := rfl
@[simp] theorem State.setNotices_queries (x : Notices) : (State.setNotices x s).queries = s.queries := rfl
@[simp] theorem State.setNotices_sched (x : Notices) : (State.setNotices x s).sched = s.sched := rfl
@[simp] theorem State.setNotices_port (x : Notices) : (State.setNotices x s).port = s.port := rfl
@[simp] theorem State.setNotices_mem (x : Notices) : (State.setNotices x s).mem = s.mem := rfl
@[simp] theorem State.setNotices_buffers (x : Notices) : (State.setNotices x s).buffers = s.buffers := rfl
@[simp] theorem State.setNotices_window (x : Notices) : (State.setNotices x s).window = s.window := rfl
@[simp] theorem State.setNotices_links (x : Notices) : (State.setNotices x s).links = s.links := rfl
@[simp] theorem State.setNotices_cellQueue (x : Notices) : (State.setNotices x s).cellQueue = s.cellQueue := rfl
@[simp] theorem State.setNotices_settings (x : Notices) : (State.setNotices x s).settings = s.settings := rfl
@[simp] theorem State.setNotices_notices (x : Notices) : (State.setNotices x s).notices = x := rfl
@[simp] theorem State.setNotices_counters (x : Notices) : (State.setNotices x s).counters = s.counters := rfl
@[simp] theorem State.setNotices_pending (x : Notices) : (State.setNotices x s).pending = s.pending := rfl
@[simp] theorem State.setCounters_resetAsserted (x : Vector Count32 28) : (State.setCounters x s).resetAsserted = s.resetAsserted := rfl
@[simp] theorem State.setCounters_powerOns (x : Vector Count32 28) : (State.setCounters x s).powerOns = s.powerOns := rfl
@[simp] theorem State.setCounters_sheets (x : Vector Count32 28) : (State.setCounters x s).sheets = s.sheets := rfl
@[simp] theorem State.setCounters_ingest (x : Vector Count32 28) : (State.setCounters x s).ingest = s.ingest := rfl
@[simp] theorem State.setCounters_drain (x : Vector Count32 28) : (State.setCounters x s).drain = s.drain := rfl
@[simp] theorem State.setCounters_time (x : Vector Count32 28) : (State.setCounters x s).time = s.time := rfl
@[simp] theorem State.setCounters_spindles (x : Vector Count32 28) : (State.setCounters x s).spindles = s.spindles := rfl
@[simp] theorem State.setCounters_queries (x : Vector Count32 28) : (State.setCounters x s).queries = s.queries := rfl
@[simp] theorem State.setCounters_sched (x : Vector Count32 28) : (State.setCounters x s).sched = s.sched := rfl
@[simp] theorem State.setCounters_port (x : Vector Count32 28) : (State.setCounters x s).port = s.port := rfl
@[simp] theorem State.setCounters_mem (x : Vector Count32 28) : (State.setCounters x s).mem = s.mem := rfl
@[simp] theorem State.setCounters_buffers (x : Vector Count32 28) : (State.setCounters x s).buffers = s.buffers := rfl
@[simp] theorem State.setCounters_window (x : Vector Count32 28) : (State.setCounters x s).window = s.window := rfl
@[simp] theorem State.setCounters_links (x : Vector Count32 28) : (State.setCounters x s).links = s.links := rfl
@[simp] theorem State.setCounters_cellQueue (x : Vector Count32 28) : (State.setCounters x s).cellQueue = s.cellQueue := rfl
@[simp] theorem State.setCounters_settings (x : Vector Count32 28) : (State.setCounters x s).settings = s.settings := rfl
@[simp] theorem State.setCounters_notices (x : Vector Count32 28) : (State.setCounters x s).notices = s.notices := rfl
@[simp] theorem State.setCounters_counters (x : Vector Count32 28) : (State.setCounters x s).counters = x := rfl
@[simp] theorem State.setCounters_pending (x : Vector Count32 28) : (State.setCounters x s).pending = s.pending := rfl
@[simp] theorem State.setPending_resetAsserted (x : List Instr) : (State.setPending x s).resetAsserted = s.resetAsserted := rfl
@[simp] theorem State.setPending_powerOns (x : List Instr) : (State.setPending x s).powerOns = s.powerOns := rfl
@[simp] theorem State.setPending_sheets (x : List Instr) : (State.setPending x s).sheets = s.sheets := rfl
@[simp] theorem State.setPending_ingest (x : List Instr) : (State.setPending x s).ingest = s.ingest := rfl
@[simp] theorem State.setPending_drain (x : List Instr) : (State.setPending x s).drain = s.drain := rfl
@[simp] theorem State.setPending_time (x : List Instr) : (State.setPending x s).time = s.time := rfl
@[simp] theorem State.setPending_spindles (x : List Instr) : (State.setPending x s).spindles = s.spindles := rfl
@[simp] theorem State.setPending_queries (x : List Instr) : (State.setPending x s).queries = s.queries := rfl
@[simp] theorem State.setPending_sched (x : List Instr) : (State.setPending x s).sched = s.sched := rfl
@[simp] theorem State.setPending_port (x : List Instr) : (State.setPending x s).port = s.port := rfl
@[simp] theorem State.setPending_mem (x : List Instr) : (State.setPending x s).mem = s.mem := rfl
@[simp] theorem State.setPending_buffers (x : List Instr) : (State.setPending x s).buffers = s.buffers := rfl
@[simp] theorem State.setPending_window (x : List Instr) : (State.setPending x s).window = s.window := rfl
@[simp] theorem State.setPending_links (x : List Instr) : (State.setPending x s).links = s.links := rfl
@[simp] theorem State.setPending_cellQueue (x : List Instr) : (State.setPending x s).cellQueue = s.cellQueue := rfl
@[simp] theorem State.setPending_settings (x : List Instr) : (State.setPending x s).settings = s.settings := rfl
@[simp] theorem State.setPending_notices (x : List Instr) : (State.setPending x s).notices = s.notices := rfl
@[simp] theorem State.setPending_counters (x : List Instr) : (State.setPending x s).counters = s.counters := rfl
@[simp] theorem State.setPending_pending (x : List Instr) : (State.setPending x s).pending = x := rfl

end Sys2Proof.Machine
end

