-- ==== Sys2Proof/Laws/Frames.lean ====
section
/-! SUPPORT. For each shared operation, once, what it can change: everything outside the listed parts is the same after
it. -/

namespace Sys2Proof.Machine

open Sys2Proof

variable {s t u : State} {c d : List Block}

/-! ### Composing -/

theorem Unchanged.refl (c : List Block) (s : State) : Unchanged c s s := by
  intro b _; cases b <;> rfl

theorem Unchanged.mono (h : Unchanged d s t) (hd : ∀ b ∈ d, b ∈ c) : Unchanged c s t :=
  fun b hb => h b (fun hb' => hb (hd b hb'))

theorem Unchanged.trans (h₁ : Unchanged c s t) (h₂ : Unchanged c t u) : Unchanged c s u := by
  intro b hb
  have h₁ := h₁ b hb
  have h₂ := h₂ b hb
  cases b <;> exact Eq.trans h₂ h₁

/-- One more operation that changes fewer parts. -/
theorem Unchanged.andThen (h₁ : Unchanged c s t) (h₂ : Unchanged d t u) (hd : ∀ b ∈ d, b ∈ c := by decide) :
    Unchanged c s u := h₁.trans (h₂.mono hd)

theorem Unchanged.foldl {α : Type} (f : State → α → State) (hf : ∀ s x, Unchanged c s (f s x)) (xs : List α) :
    ∀ s, Unchanged c s (xs.foldl f s) := by
  induction xs with
  | nil => exact Unchanged.refl c
  | cons x xs ih => exact fun s => (hf s x).trans (ih (f s x))


/-! ### Reading a part that is unchanged -/

theorem Unchanged.resetInput (h : Unchanged c s t) (hb : Block.resetInput ∉ c := by decide) : t.resetAsserted = s.resetAsserted := h .resetInput hb
theorem Unchanged.powerOns (h : Unchanged c s t) (hb : Block.powerOns ∉ c := by decide) : t.powerOns = s.powerOns := h .powerOns hb
theorem Unchanged.sheets (h : Unchanged c s t) (hb : Block.sheets ∉ c := by decide) : t.sheets = s.sheets := h .sheets hb
theorem Unchanged.ingest (h : Unchanged c s t) (hb : Block.ingest ∉ c := by decide) : t.ingest = s.ingest := h .ingest hb
theorem Unchanged.drain (h : Unchanged c s t) (hb : Block.drain ∉ c := by decide) : t.drain = s.drain := h .drain hb
theorem Unchanged.time (h : Unchanged c s t) (hb : Block.time ∉ c := by decide) : t.time = s.time := h .time hb
theorem Unchanged.spindles (h : Unchanged c s t) (hb : Block.spindles ∉ c := by decide) : t.spindles = s.spindles := h .spindles hb
theorem Unchanged.queries (h : Unchanged c s t) (hb : Block.queries ∉ c := by decide) : t.queries = s.queries := h .queries hb
theorem Unchanged.sched (h : Unchanged c s t) (hb : Block.sched ∉ c := by decide) : t.sched = s.sched := h .sched hb
theorem Unchanged.port (h : Unchanged c s t) (hb : Block.port ∉ c := by decide) : t.port = s.port := h .port hb
theorem Unchanged.mem (h : Unchanged c s t) (hb : Block.mem ∉ c := by decide) : t.mem = s.mem := h .mem hb
theorem Unchanged.buffers (h : Unchanged c s t) (hb : Block.buffers ∉ c := by decide) : t.buffers = s.buffers := h .buffers hb
theorem Unchanged.window (h : Unchanged c s t) (hb : Block.window ∉ c := by decide) : t.window = s.window := h .window hb
theorem Unchanged.links (h : Unchanged c s t) (hb : Block.links ∉ c := by decide) : t.links = s.links := h .links hb
theorem Unchanged.cellQueue (h : Unchanged c s t) (hb : Block.cellQueue ∉ c := by decide) : t.cellQueue = s.cellQueue := h .cellQueue hb
theorem Unchanged.settings (h : Unchanged c s t) (hb : Block.settings ∉ c := by decide) : t.settings = s.settings := h .settings hb
theorem Unchanged.notices (h : Unchanged c s t) (hb : Block.notices ∉ c := by decide) : t.notices = s.notices := h .notices hb
theorem Unchanged.counters (h : Unchanged c s t) (hb : Block.counters ∉ c := by decide) : t.counters = s.counters := h .counters hb
theorem Unchanged.pending (h : Unchanged c s t) (hb : Block.pending ∉ c := by decide) : t.pending = s.pending := h .pending hb

/-! ### Field updates -/

theorem setSheets_unchanged (x) (s : State) : Unchanged [.sheets] s (State.setSheets x s) := by
  intro b hb; cases b <;> first | rfl | exact absurd (List.mem_singleton.2 rfl) hb
theorem setIngest_unchanged (x) (s : State) : Unchanged [.ingest] s (State.setIngest x s) := by
  intro b hb; cases b <;> first | rfl | exact absurd (List.mem_singleton.2 rfl) hb
theorem setDrain_unchanged (x) (s : State) : Unchanged [.drain] s (State.setDrain x s) := by
  intro b hb; cases b <;> first | rfl | exact absurd (List.mem_singleton.2 rfl) hb
theorem setTime_unchanged (x) (s : State) : Unchanged [.time] s (State.setTime x s) := by
  intro b hb; cases b <;> first | rfl | exact absurd (List.mem_singleton.2 rfl) hb
theorem setSpindles_unchanged (x) (s : State) : Unchanged [.spindles] s (State.setSpindles x s) := by
  intro b hb; cases b <;> first | rfl | exact absurd (List.mem_singleton.2 rfl) hb
theorem setQueries_unchanged (x) (s : State) : Unchanged [.queries] s (State.setQueries x s) := by
  intro b hb; cases b <;> first | rfl | exact absurd (List.mem_singleton.2 rfl) hb
theorem setSched_unchanged (x) (s : State) : Unchanged [.sched] s (State.setSched x s) := by
  intro b hb; cases b <;> first | rfl | exact absurd (List.mem_singleton.2 rfl) hb
theorem setPort_unchanged (x) (s : State) : Unchanged [.port] s (State.setPort x s) := by
  intro b hb; cases b <;> first | rfl | exact absurd (List.mem_singleton.2 rfl) hb
theorem setMem_unchanged (x) (s : State) : Unchanged [.mem] s (State.setMem x s) := by
  intro b hb; cases b <;> first | rfl | exact absurd (List.mem_singleton.2 rfl) hb
theorem setBuffers_unchanged (x) (s : State) : Unchanged [.buffers] s (State.setBuffers x s) := by
  intro b hb; cases b <;> first | rfl | exact absurd (List.mem_singleton.2 rfl) hb
theorem setWindow_unchanged (x) (s : State) : Unchanged [.window] s (State.setWindow x s) := by
  intro b hb; cases b <;> first | rfl | exact absurd (List.mem_singleton.2 rfl) hb
theorem setLinks_unchanged (x) (s : State) : Unchanged [.links] s (State.setLinks x s) := by
  intro b hb; cases b <;> first | rfl | exact absurd (List.mem_singleton.2 rfl) hb
theorem setCellQueue_unchanged (x) (s : State) : Unchanged [.cellQueue] s (State.setCellQueue x s) := by
  intro b hb; cases b <;> first | rfl | exact absurd (List.mem_singleton.2 rfl) hb
theorem setSettings_unchanged (x) (s : State) : Unchanged [.settings] s (State.setSettings x s) := by
  intro b hb; cases b <;> first | rfl | exact absurd (List.mem_singleton.2 rfl) hb
theorem setNotices_unchanged (x) (s : State) : Unchanged [.notices] s (State.setNotices x s) := by
  intro b hb; cases b <;> first | rfl | exact absurd (List.mem_singleton.2 rfl) hb
theorem setCounters_unchanged (x) (s : State) : Unchanged [.counters] s (State.setCounters x s) := by
  intro b hb; cases b <;> first | rfl | exact absurd (List.mem_singleton.2 rfl) hb
theorem setPending_unchanged (x) (s : State) : Unchanged [.pending] s (State.setPending x s) := by
  intro b hb; cases b <;> first | rfl | exact absurd (List.mem_singleton.2 rfl) hb

/-! ### Shared operations -/

theorem setLink_unchanged (p : Port) (l : Link) (s : State) : Unchanged [.links] s (setLink p l s) :=
  setLinks_unchanged _ s

theorem send_unchanged (p : Port) (r : OutRecord) (s : State) : Unchanged [.links] s (send p r s) := by
  unfold send; split
  · exact setLink_unchanged _ _ s
  · exact .refl _ s

theorem reply_unchanged (tag : Tag) (k : Nat) (r : ReplyResult) (b : ReplyBody) (s : State) :
    Unchanged [.links] s (reply tag k r b s) := send_unchanged _ _ s

theorem answerRequest_unchanged (q : Request) (r : ReplyResult) (s : State) :
    Unchanged [.links] s (answerRequest q r s) := reply_unchanged _ _ _ _ s

theorem answerWith_unchanged (q : Request) (r : ReplyResult) (b : ReplyBody) (s : State) :
    Unchanged [.links] s (answerWith q r b s) := reply_unchanged _ _ _ _ s

theorem countBy_unchanged (k : Fin 28) (n : Nat) (s : State) : Unchanged [.counters] s (countBy k n s) :=
  setCounters_unchanged _ s

theorem count_unchanged (k : Fin 28) (s : State) : Unchanged [.counters] s (count k s) := countBy_unchanged _ _ s

theorem makeNotice_unchanged (s : State) : Unchanged [.links] s (makeNotice s) := send_unchanged _ _ s

theorem raise_unchanged (src : SourceSet) (s : State) : Unchanged [.notices, .links] s (raise src s) := by
  unfold raise; dsimp only; split
  · exact ((setNotices_unchanged _ s).mono (by decide)).andThen (makeNotice_unchanged _)
  · exact (setNotices_unchanged _ s).mono (by decide)

theorem setSheet_unchanged (n : Nat) (x : Option Sheet) (s : State) : Unchanged [.sheets] s (setSheet n x s) :=
  setSheets_unchanged _ s

theorem setSpindle_unchanged (n : Fin 6) (x : Context) (s : State) : Unchanged [.spindles] s (setSpindle n x s) :=
  setSpindles_unchanged _ s

theorem answerQuery_unchanged (n : Fin 6) (tag : Tag) (o : DepthOutcome) (cut : Nat) (x : Int) (m : Modifiers)
    (s : State) : Unchanged [.spindles, .counters, .links] s (answerQuery n tag o cut x m s) := by
  have h (x) : Unchanged [.spindles, .counters, .links] s (setSpindle n x s) :=
    (setSpindle_unchanged n x s).mono (by decide)
  unfold answerQuery; dsimp only
  split
  · exact ((h _).andThen (count_unchanged _ _)).andThen (send_unchanged _ _ _)
  · exact (h _).andThen (send_unchanged _ _ _)

theorem setInFlight_unchanged (x : Option InFlight) (s : State) : Unchanged [.port] s (setInFlight x s) :=
  setPort_unchanged _ s

theorem discardInFlight_unchanged (p : InFlight → Bool) (s : State) : Unchanged [.port] s (discardInFlight p s) := by
  unfold discardInFlight; repeat' split
  · exact setInFlight_unchanged _ s
  · exact .refl _ s
  · exact .refl _ s

theorem removeRecords_unchanged (p : QueryRecord → Bool) (s : State) :
    Unchanged [.port, .queries] s (removeRecords p s) := by
  unfold removeRecords; dsimp only
  exact ((discardInFlight_unchanged _ s).mono (by decide)).andThen (setQueries_unchanged _ _)

theorem judgeDeadline_unchanged (s : State) : Unchanged [.sched, .counters] s (judgeDeadline s) := by
  unfold judgeDeadline; dsimp only; split
  · exact ((setSched_unchanged _ s).mono (by decide)).andThen (count_unchanged _ _)
  · exact (setSched_unchanged _ s).mono (by decide)

theorem judgeBaseMode_unchanged (s : State) :
    Unchanged [.sched, .counters, .notices, .links] s (judgeBaseMode s) := by
  unfold judgeBaseMode; repeat' split
  · exact (((setSched_unchanged _ s).mono (by decide)).andThen (raise_unchanged _ _)).andThen (count_unchanged _ _)
  · exact .refl _ s
  · exact (setSched_unchanged _ s).mono (by decide)
  · exact .refl _ s

theorem testSheetReady_unchanged (n : Nat) (s : State) : Unchanged [.sheets, .links] s (testSheetReady n s) := by
  unfold testSheetReady; repeat' split
  all_goals first
    | exact .refl _ s
    | exact ((setSheet_unchanged _ _ s).mono (by decide)).andThen (reply_unchanged _ _ _ _ _)

/-! ### Window reader -/

theorem sendChunk_unchanged (s : State) : Unchanged [.links, .window] s (sendChunk s) := by
  unfold sendChunk; split
  · exact .refl _ s
  · exact ((send_unchanged _ _ s).mono (by decide)).andThen (setWindow_unchanged _ _)

theorem endWindow_unchanged (s : State) : Unchanged [.links, .window] s (endWindow s) := by
  unfold endWindow; split
  · exact .refl _ s
  · dsimp only
    refine Unchanged.andThen (Unchanged.andThen ?_ (reply_unchanged _ _ _ _ _)) (setWindow_unchanged _ _)
    split
    · exact .refl _ s
    · exact sendChunk_unchanged s

theorem placeCode_unchanged (k : Code) (s : State) : Unchanged [.links, .window] s (placeCode k s) := by
  unfold placeCode; split
  · exact .refl _ s
  · dsimp only
    have h (x) : Unchanged [.links, .window] s (s.setWindow x) := (setWindow_unchanged x s).mono (by decide)
    repeat' split
    all_goals first
      | exact ((h _).trans (sendChunk_unchanged _)).trans (endWindow_unchanged _)
      | exact (h _).trans (sendChunk_unchanged _)
      | exact (h _).trans (endWindow_unchanged _)
      | exact h _

theorem placeVoids_unchanged (n : Nat) : ∀ s, Unchanged [.links, .window] s (placeVoids n s) := by
  induction n with
  | zero => exact Unchanged.refl _
  | succ n ih =>
    intro s; unfold placeVoids; split
    · exact .refl _ s
    · split
      · exact .refl _ s
      · exact (((setWindow_unchanged _ s).mono (by decide)).trans (placeCode_unchanged _ _)).trans (ih _)

theorem settleVoids_unchanged (s : State) : Unchanged [.links, .window] s (settleVoids s) := by
  unfold settleVoids; repeat' split
  · exact .refl _ s
  · exact .refl _ s
  · exact placeVoids_unchanged _ s

theorem placeWord_unchanged (k : Nat) (w : CellWord) (bad : Bool) (s : State) :
    Unchanged [.links, .window] s (placeWord k w bad s) := by
  unfold placeWord; split
  · exact .refl _ s
  · exact (Unchanged.foldl _ (fun s x => placeCode_unchanged x s) _ s).trans (settleVoids_unchanged _)

theorem dropWindow_unchanged (s : State) : Unchanged [.port, .window] s (dropWindow s) :=
  ((discardInFlight_unchanged _ s).mono (by decide)).andThen (setWindow_unchanged _ _)

theorem endWindowWith_unchanged (r : ReplyResult) (s : State) :
    Unchanged [.port, .window, .links] s (endWindowWith r s) := by
  unfold endWindowWith; split
  · exact .refl _ s
  · exact ((dropWindow_unchanged s).mono (by decide)).andThen (reply_unchanged _ _ _ _ _)

theorem holdChunkAtMark_unchanged (s : State) : Unchanged [.links, .window] s (holdChunkAtMark s) := by
  unfold holdChunkAtMark; split
  · exact .refl _ s
  · split
    · exact .refl _ s
    · dsimp only
      have h (x) : Unchanged [.links, .window] s (s.setWindow x) := (setWindow_unchanged x s).mono (by decide)
      split
      · exact (h _).trans (sendChunk_unchanged _)
      · exact h _

/-! ### Scheduler -/

theorem setBank_unchanged (b : Fin 8) (x : Bank) (s : State) : Unchanged [.port] s (setBank b x s) :=
  setPort_unchanged _ s

theorem startTimer_unchanged (b : Fin 8) (s : State) : Unchanged [.port] s (startTimer b s) := setBank_unchanged _ _ s

theorem touchBank_unchanged (b : Fin 8) (s : State) : Unchanged [.port] s (touchBank b s) := setBank_unchanged _ _ s

theorem judgeRow_unchanged (b : Fin 8) (row : Nat) (s : State) : Unchanged [.port] s (judgeRow b row s) := by
  unfold judgeRow; split
  · exact startTimer_unchanged _ s
  · exact setBank_unchanged _ _ s

theorem judgeBank_unchanged (b : Fin 8) (s : State) : Unchanged [.port] s (judgeBank b s) := by
  unfold judgeBank; dsimp only; split
  · exact judgeRow_unchanged _ _ s
  · exact .refl _ s

theorem judgeBanks_unchanged (s : State) : Unchanged [.port] s (judgeBanks s) :=
  Unchanged.foldl _ (fun s b => judgeBank_unchanged b s) _ s

theorem accessBank_unchanged (b : Fin 8) (s : State) : Unchanged [.port, .counters] s (accessBank b s) := by
  unfold accessBank; dsimp only
  refine Unchanged.andThen ?_ (setBank_unchanged _ _ _)
  split
  · exact (count_unchanged _ s).mono (by decide)
  · exact .refl _ s

theorem issueOpen_unchanged (b : Fin 8) (row : Nat) (s : State) : Unchanged [.port, .counters] s (issueOpen b row s) :=
  ((setInFlight_unchanged _ s).mono (by decide)).andThen (count_unchanged _ _)

theorem issueClose_unchanged (b : Fin 8) (s : State) : Unchanged [.port] s (issueClose b s) :=
  (setInFlight_unchanged _ s).trans (touchBank_unchanged _ _)

/-- The parts that the issue of an operation can change. -/
abbrev issueParts : List Block := [.port, .sched, .queries, .window, .counters]

theorem issueFetch_unchanged (k : QueryCandidate) (s : State) : Unchanged issueParts s (issueFetch k s) := by
  unfold issueFetch markIssued
  exact ((((setInFlight_unchanged _ s).mono (by decide)).andThen (accessBank_unchanged _ _)).andThen
    (setQueries_unchanged _ _)).andThen (judgeDeadline_unchanged _)

theorem issueDrain_unchanged (e : Entry) (s : State) : Unchanged issueParts s (issueDrain e s) := by
  have h (x) : Unchanged issueParts s (accessBank (bankOf e.tile) (setInFlight x s)) :=
    ((setInFlight_unchanged _ s).mono (by decide)).andThen (accessBank_unchanged _ _)
  unfold issueDrain; split
  · exact (h _).andThen (count_unchanged _ _)
  · exact h _
  · exact h _

theorem issueWindow_unchanged (b : Bool) (w : WindowRead) (y k : Nat) (s : State) :
    Unchanged issueParts s (issueWindow b w y k s) := by
  unfold issueWindow; dsimp only
  exact ((((setInFlight_unchanged _ s).mono (by decide)).andThen (accessBank_unchanged _ _)).andThen
    (setWindow_unchanged _ _)).andThen (setSched_unchanged _ _)

theorem countPreemption_unchanged (b : Fin 8) (s : State) : Unchanged [.counters] s (countPreemption b s) := by
  unfold countPreemption; split
  · exact count_unchanged _ s
  · exact .refl _ s

theorem toward_unchanged (tile : Nat) (access closing : State → State) (s : State)
    (ha : ∀ s, Unchanged issueParts s (access s)) (hc : ∀ s, Unchanged issueParts s (closing s)) :
    Unchanged issueParts s (toward tile access closing s) := by
  unfold toward; dsimp only; repeat' split
  · exact ha s
  · exact (hc s).andThen (issueClose_unchanged _ _)
  · exact (issueOpen_unchanged _ _ s).mono (by decide)

theorem towardQuery_unchanged (k : QueryCandidate) (s : State) : Unchanged issueParts s (towardQuery k s) :=
  toward_unchanged _ _ _ s (issueFetch_unchanged k) (Unchanged.refl _)

theorem towardUrgent_unchanged (k : QueryCandidate) (s : State) : Unchanged issueParts s (towardUrgent k s) :=
  toward_unchanged _ _ _ s (issueFetch_unchanged k) (fun s => (countPreemption_unchanged _ s).mono (by decide))

theorem towardDrain_unchanged (e : Entry) (s : State) : Unchanged issueParts s (towardDrain e s) :=
  toward_unchanged _ _ _ s (issueDrain_unchanged e) (Unchanged.refl _)

theorem towardWindow_unchanged (b : Bool) (w : WindowRead) (y k : Nat) (s : State) :
    Unchanged issueParts s (towardWindow b w y k s) :=
  toward_unchanged _ _ _ s (issueWindow_unchanged b w y k) (Unchanged.refl _)

theorem refreshNext_unchanged (s : State) : Unchanged issueParts s (refreshNext s) := by
  have h (x) : Unchanged issueParts s (s.setSched x) := (setSched_unchanged x s).mono (by decide)
  unfold refreshNext; split
  · exact (h _).andThen (issueClose_unchanged _ _)
  · exact (h _).andThen (setInFlight_unchanged _ _)

theorem towardByBaseMode_unchanged (s t : State) (h : towardByBaseMode s = some t) : Unchanged issueParts s t := by
  have hq (x) (hx : (firstQuery s).map (fun k => towardQuery k s) = some x) : Unchanged issueParts s x := by
    obtain ⟨k, -, rfl⟩ := Option.map_eq_some_iff.1 hx; exact towardQuery_unchanged k s
  have hw (x) (hx : (offeredWord s).map (fun (w, y, k) => towardWindow false w y k s) = some x) :
      Unchanged issueParts s x := by
    obtain ⟨⟨w, y, k⟩, -, rfl⟩ := Option.map_eq_some_iff.1 hx; exact towardWindow_unchanged false w y k s
  have hd (x) (hx : s.drain.queue.head?.map (fun e => towardDrain e s) = some x) : Unchanged issueParts s x := by
    obtain ⟨e, -, rfl⟩ := Option.map_eq_some_iff.1 hx; exact towardDrain_unchanged e s
  unfold towardByBaseMode at h; dsimp only at h
  split at h <;> simp only [Option.or_eq_some_iff] at h <;> grind

theorem chooseUnforced_unchanged (s : State) : Unchanged issueParts s (chooseUnforced s) := by
  unfold chooseUnforced; repeat' split
  · exact towardByBaseMode_unchanged s _ ‹_›
  · exact refreshNext_unchanged s
  · exact (issueClose_unchanged _ s).mono (by decide)
  · exact .refl _ s

theorem chooseStep_unchanged (s : State) : Unchanged issueParts s (chooseStep s) := by
  unfold chooseStep
  split
  · exact refreshNext_unchanged s
  · split
    · exact ((count_unchanged _ s).mono (by decide)).trans (refreshNext_unchanged _)
    · split
      · exact towardUrgent_unchanged _ s
      · split
        · exact refreshNext_unchanged s
        · split
          · exact towardWindow_unchanged _ _ _ _ s
          · exact chooseUnforced_unchanged s

/-- A choice issues at most one operation: it changes the port, the mode state, fetch states, the reader's place and
counters, and nothing else (R105, R106). -/
theorem choose_unchanged (s : State) : Unchanged issueParts s (choose s) := by
  unfold choose; split
  · exact chooseStep_unchanged s
  · exact .refl _ s

/-! ### Queries -/

/-- The parts that answering or withdrawing queries can change. -/
abbrev answerParts : List Block := [.spindles, .counters, .links, .port, .queries, .sched]

theorem answerAndRemove_unchanged (p : QueryRecord → Bool) (o : DepthOutcome) (s : State) :
    Unchanged answerParts s (answerAndRemove p o s) := by
  unfold answerAndRemove; dsimp only
  exact (((Unchanged.foldl _ (fun s (r : QueryRecord) => answerQuery_unchanged r.spindle r.tag o _ r.correction
    noModifiers s) _ s).mono (by decide)).andThen (removeRecords_unchanged _ _)).andThen (judgeDeadline_unchanged _)

theorem withdrawQueries_unchanged (p : QueryRecord → Bool) (s : State) :
    Unchanged answerParts s (withdrawQueries p s) :=
  ((removeRecords_unchanged p s).mono (by decide)).andThen (judgeDeadline_unchanged _)

theorem answerRecord_unchanged (r : QueryRecord) (s : State) :
    Unchanged [.spindles, .counters, .links] s (answerRecord r s) := by
  unfold answerRecord; split <;> exact answerQuery_unchanged _ _ _ _ _ _ s

theorem deliverFetch_unchanged (seq : Count32) (i : Nat) (w : CellWord) (bad : Bool) (s : State) :
    Unchanged answerParts s (deliverFetch seq i w bad s) := by
  unfold deliverFetch; dsimp only; repeat' split
  · exact .refl _ s
  · exact (((answerRecord_unchanged _ s).mono (by decide)).andThen (removeRecords_unchanged _ _)).andThen
      (judgeDeadline_unchanged _)
  · exact ((setQueries_unchanged _ s).mono (by decide)).andThen (judgeDeadline_unchanged _)

theorem acceptQuery_unchanged (n : Fin 6) (tag : Tag) (d : BitVec 16) (a b : Int) (m : Nat) (x : Sheet) (s : State) :
    Unchanged answerParts s (acceptQuery n tag d a b m x s) := by
  have h (q) : Unchanged answerParts s (count cntQueriesAccepted (s.setQueries q)) :=
    ((setQueries_unchanged _ s).mono (by decide)).andThen (count_unchanged _ _)
  unfold acceptQuery; dsimp only; repeat' split
  · exact (h _).andThen (answerQuery_unchanged _ _ _ _ _ _ _)
  · exact (h _).andThen (answerQuery_unchanged _ _ _ _ _ _ _)
  · exact ((h _).andThen (setQueries_unchanged _ _)).andThen (judgeDeadline_unchanged _)

/-! ### Ingest, jobs, sheets and spindles -/

theorem setSlot_unchanged (i : Fin 2) (x : Slot) (s : State) : Unchanged [.ingest] s (setSlot i x s) :=
  setIngest_unchanged _ s

theorem rewind_unchanged (r : SweepReason) (a b k : Bool) (s : State) :
    Unchanged [.ingest, .links, .notices, .counters] s (rewind r a b k s) := by
  unfold rewind; split
  · exact .refl _ s
  · rename_i i w _
    have h1 : Unchanged [.ingest, .links, .notices, .counters] s (setSlot i .free s) :=
      (setSlot_unchanged _ _ s).mono (by decide)
    cases a <;> cases b <;> cases k <;> simp only [Bool.false_eq_true, if_true, if_false]
    · exact h1
    · exact h1.andThen (count_unchanged _ _)
    · exact h1.andThen (raise_unchanged _ _)
    · exact (h1.andThen (raise_unchanged _ _)).andThen (count_unchanged _ _)
    · exact h1.andThen (send_unchanged _ _ _)
    · exact (h1.andThen (send_unchanged _ _ _)).andThen (count_unchanged _ _)
    · exact (h1.andThen (send_unchanged _ _ _)).andThen (raise_unchanged _ _)
    · exact ((h1.andThen (send_unchanged _ _ _)).andThen (raise_unchanged _ _)).andThen (count_unchanged _ _)

theorem freeJobPlace_unchanged (j : Job) (s : State) : Unchanged [.ingest, .buffers] s (freeJobPlace j s) := by
  unfold freeJobPlace; split
  · exact (setSlot_unchanged _ _ s).mono (by decide)
  · exact .refl _ s
  · exact (setBuffers_unchanged _ s).mono (by decide)

theorem removeJobs_unchanged (p : Job → Bool) (s : State) :
    Unchanged [.drain, .ingest, .buffers] s (removeJobs p s) := by
  unfold removeJobs; dsimp only
  exact ((setDrain_unchanged _ s).mono (by decide)).trans
    ((Unchanged.foldl _ (fun s j => freeJobPlace_unchanged j s) _ _).mono (by decide))

theorem lowerAccepted_unchanged (f : Nat → Nat) (s : State) : Unchanged [.sheets] s (lowerAccepted f s) :=
  setSheets_unchanged _ s

theorem mapSpindles_unchanged (f : Context → Context) (ns : List (Fin 6)) (s : State) :
    Unchanged [.spindles] s (mapSpindles f ns s) :=
  Unchanged.foldl _ (fun s n => setSpindle_unchanged n _ s) _ s

theorem refuseReady_unchanged (n : Nat) (s : State) : Unchanged [.sheets, .links] s (refuseReady n s) := by
  unfold refuseReady; repeat' split
  all_goals first
    | exact .refl _ s
    | exact ((setSheet_unchanged _ _ s).mono (by decide)).andThen (reply_unchanged _ _ _ _ _)

theorem removeEntries_unchanged (n : Nat) (s : State) :
    Unchanged [.drain, .sched, .counters, .notices, .links] s (removeEntries n s) :=
  ((setDrain_unchanged _ s).mono (by decide)).andThen (judgeBaseMode_unchanged _)

/-! ### Completions -/

theorem retireAfter_unchanged (o : InFlight) (s : State) : Unchanged [.sheets, .links] s (retireAfter o s) := by
  unfold retireAfter; dsimp only; repeat' split
  all_goals first
    | exact .refl _ s
    | exact ((setSheet_unchanged _ _ s).mono (by decide)).andThen (reply_unchanged _ _ _ _ _)
    | exact (setSheet_unchanged _ _ s).mono (by decide)

/-- The parts that the end of a completion can change. -/
abbrev completionParts : List Block := [.sheets, .links, .port, .sched, .queries, .window, .counters]

theorem afterCompletion_unchanged (o : InFlight) (s : State) : Unchanged completionParts s (afterCompletion o s) :=
  (((retireAfter_unchanged o s).mono (by decide)).andThen (judgeBanks_unchanged _)).andThen (choose_unchanged _)

theorem settleBank_unchanged (o : InFlight) (b : Fin 8) (s : State) : Unchanged [.port] s (settleBank o b s) := by
  unfold settleBank; split
  · exact setBank_unchanged _ _ s
  · exact startTimer_unchanged _ s

theorem noteFinding_unchanged (f : Finding) (s : State) :
    Unchanged [.counters, .notices, .links] s (noteFinding f s) := by
  unfold noteFinding; split
  · exact .refl _ s
  · exact (count_unchanged _ s).mono (by decide)
  · exact ((count_unchanged _ s).mono (by decide)).andThen (raise_unchanged _ _)

theorem raiseWritten_unchanged (n : Nat) (s : State) :
    Unchanged [.sheets, .notices, .links] s (raiseWritten n s) := by
  unfold raiseWritten; dsimp only; repeat' split
  all_goals first
    | exact .refl _ s
    | exact ((setSheet_unchanged _ _ s).mono (by decide)).andThen (raise_unchanged _ _)
    | exact (setSheet_unchanged _ _ s).mono (by decide)

theorem endFill_unchanged (e : Entry) (s : State) : Unchanged [.sheets] s (endFill e s) := by
  unfold endFill; repeat' split
  all_goals first
    | exact .refl _ s
    | exact setSheet_unchanged _ _ s

/-! ### Alarm firings and the load -/

theorem fireAlarm_unchanged (a : Fin 2) (s : State) : Unchanged [.spindles, .notices, .links] s (fireAlarm a s) :=
  ((raise_unchanged _ s).mono (by decide)).andThen (mapSpindles_unchanged _ _ _)

theorem takeIf_unchanged {c : List Block} {act : State → State} (due : Bool) (h : ∀ s, Unchanged c s (act s)) (s : State) :
    Unchanged c s (takeIf due act s) := by
  cases due
  · exact .refl c s
  · exact h s

theorem takeLoad_unchanged (v : MachineTime) (s : State) : Unchanged [.time, .spindles, .notices, .links] s (takeLoad v s) :=
  (((setTime_unchanged _ s).mono (by decide)).andThen (takeIf_unchanged _ (fireAlarm_unchanged 0) _)).andThen
    (takeIf_unchanged _ (fireAlarm_unchanged 1) _)

/-- The load changes the time base by its own part alone; the firings leave it (R53, R56). -/
@[simp] theorem takeLoad_time (v : MachineTime) (s : State) : (takeLoad v s).time = loadTime v s.time :=
  ((takeIf_unchanged _ (fireAlarm_unchanged 1) _).time).trans ((takeIf_unchanged _ (fireAlarm_unchanged 0) _).time)

end Sys2Proof.Machine
end

