-- ==== Sys2Proof/Laws/Memory.lean ====
section
/-! SUPPORT. The attached memory: its canonical form is kept by every operation, and a read after a store gives what was
stored there and what stood elsewhere. -/

namespace Sys2Proof.Machine

open Sys2Proof

variable {α : Type}

/-! ### Rising keys -/

/-- Every key of the list lies above `a`. -/
def Above (a : Nat) (l : List (Nat × α)) : Prop := ∀ p ∈ l, a < p.1

theorem risingKeys_cons {a : Nat} {v : α} {l : List (Nat × α)} :
    risingKeys ((a, v) :: l) = true ↔ Above a l ∧ risingKeys l = true := by
  induction l generalizing a v with
  | nil => simp [risingKeys, Above]
  | cons p l ih =>
    obtain ⟨b, w⟩ := p
    simp only [risingKeys, Bool.and_eq_true, decide_eq_true_eq]
    constructor
    · rintro ⟨hab, hr⟩
      refine ⟨?_, hr⟩
      intro q hq
      rcases List.mem_cons.1 hq with rfl | hq
      · exact hab
      · exact Nat.lt_trans hab ((ih.1 hr).1 q hq)
    · rintro ⟨ha, hr⟩
      exact ⟨ha (b, w) (by simp), hr⟩

/-! ### Data bytes -/

theorem above_storeByte {c x : Nat} {v : Byte} {l : List Host.Cell} (h : Above c l) (hx : c < x) :
    Above c (storeByte x v l) := by
  induction l with
  | nil => intro p hp; simp [storeByte] at hp; subst hp; exact hx
  | cons q l ih =>
    obtain ⟨a, b⟩ := q
    have ha : c < a := h (a, b) (by simp)
    have hl : Above c l := fun p hp => h p (by simp [hp])
    unfold storeByte
    split
    · intro p hp
      rcases List.mem_cons.1 hp with rfl | hp
      · exact hx
      · exact h p hp
    · split
      · intro p hp
        rcases List.mem_cons.1 hp with rfl | hp
        · exact ha
        · exact hl p hp
      · intro p hp
        rcases List.mem_cons.1 hp with rfl | hp
        · exact ha
        · exact ih hl p hp

/-- Storing a byte keeps the addresses rising. -/
theorem risingKeys_storeByte {x : Nat} {v : Byte} {l : List Host.Cell} (h : risingKeys l = true) :
    risingKeys (storeByte x v l) = true := by
  induction l with
  | nil => rfl
  | cons q l ih =>
    obtain ⟨a, b⟩ := q
    obtain ⟨ha, hl⟩ := risingKeys_cons.1 h
    unfold storeByte
    split
    · rename_i hxa
      refine risingKeys_cons.2 ⟨?_, h⟩
      intro p hp
      rcases List.mem_cons.1 hp with rfl | hp
      · exact hxa
      · exact Nat.lt_trans hxa (ha p hp)
    · split
      · exact risingKeys_cons.2 ⟨ha, hl⟩
      · exact risingKeys_cons.2 ⟨above_storeByte ha (by omega), ih hl⟩

/-- A byte reads back as stored, and every other address as before. -/
theorem lookupByte_storeByte (x y : Nat) (v : Byte) (l : List Host.Cell) :
    lookupByte (storeByte x v l) y = if x = y then some v else lookupByte l y := by
  induction l with
  | nil => simp [storeByte, lookupByte]
  | cons q l ih =>
    obtain ⟨a, b⟩ := q
    unfold storeByte
    split
    · simp [lookupByte]
    · split
      · rename_i _ hx; subst hx; simp only [lookupByte]; split <;> simp_all
      · simp only [lookupByte]
        split
        · rename_i hxa _ hay; subst hay; rw [if_neg (fun e => by omega)]
        · exact ih

/-! ### Wrong bits -/

theorem above_storeWrong {c x : Nat} {v : StoredBits} {l : List (Nat × StoredBits)} (h : Above c l) (hx : c < x) :
    Above c (storeWrong x v l) := by
  induction l with
  | nil =>
    unfold storeWrong
    split
    · exact h
    · intro p hp; simp at hp; subst hp; exact hx
  | cons q l ih =>
    obtain ⟨a, b⟩ := q
    have ha : c < a := h (a, b) (by simp)
    have hl : Above c l := fun p hp => h p (by simp [hp])
    have keep {w : StoredBits} {m : List (Nat × StoredBits)} {k : Nat} (hk : c < k) (hm : Above c m) :
        Above c ((k, w) :: m) := by
      intro p hp
      rcases List.mem_cons.1 hp with rfl | hp
      · exact hk
      · exact hm p hp
    unfold storeWrong
    split
    · split
      · exact h
      · exact keep hx h
    · split
      · split
        · exact hl
        · exact keep ha hl
      · exact keep ha (ih hl)

/-- Replacing the wrong bits of a word keeps the addresses rising. -/
theorem risingKeys_storeWrong {x : Nat} {v : StoredBits} {l : List (Nat × StoredBits)} (h : risingKeys l = true) :
    risingKeys (storeWrong x v l) = true := by
  induction l with
  | nil => unfold storeWrong; split <;> rfl
  | cons q l ih =>
    obtain ⟨a, b⟩ := q
    obtain ⟨ha, hl⟩ := risingKeys_cons.1 h
    unfold storeWrong
    split
    · rename_i hxa
      split
      · exact h
      · refine risingKeys_cons.2 ⟨?_, h⟩
        intro p hp
        rcases List.mem_cons.1 hp with rfl | hp
        · exact hxa
        · exact Nat.lt_trans hxa (ha p hp)
    · split
      · split
        · exact hl
        · exact risingKeys_cons.2 ⟨ha, hl⟩
      · exact risingKeys_cons.2 ⟨above_storeWrong ha (by omega), ih hl⟩

/-- No word is listed with no wrong bit. -/
theorem all_storeWrong {x : Nat} {v : StoredBits} {l : List (Nat × StoredBits)}
    (h : l.all (fun p => p.2 != 0) = true) : (storeWrong x v l).all (fun p => p.2 != 0) = true := by
  induction l with
  | nil => unfold storeWrong; split <;> simp_all
  | cons q l ih =>
    obtain ⟨a, b⟩ := q
    rw [List.all_cons, Bool.and_eq_true] at h
    unfold storeWrong
    split
    · split
      · rw [List.all_cons, Bool.and_eq_true]; exact h
      · rename_i hv; rw [List.all_cons, List.all_cons, Bool.and_eq_true, Bool.and_eq_true]; exact ⟨by simpa using hv, h⟩
    · split
      · split
        · exact h.2
        · rename_i hv; rw [List.all_cons, Bool.and_eq_true]; exact ⟨by simpa using hv, h.2⟩
      · rw [List.all_cons, Bool.and_eq_true]; exact ⟨h.1, ih h.2⟩

theorem lookupWrong_above {x : Nat} {l : List (Nat × StoredBits)} (h : Above x l) : lookupWrong l x = 0 := by
  induction l with
  | nil => rfl
  | cons q l ih =>
    obtain ⟨a, b⟩ := q
    have ha : x < a := h (a, b) (by simp)
    simp only [lookupWrong]
    rw [if_neg (by omega)]
    exact ih (fun p hp => h p (by simp [hp]))

/-- The wrong bits of a word read back as set. -/
theorem lookupWrong_storeWrong_same {x : Nat} {v : StoredBits} {l : List (Nat × StoredBits)}
    (h : risingKeys l = true) : lookupWrong (storeWrong x v l) x = v := by
  induction l with
  | nil => unfold storeWrong; split <;> simp_all [lookupWrong]
  | cons q l ih =>
    obtain ⟨a, b⟩ := q
    obtain ⟨ha, hl⟩ := risingKeys_cons.1 h
    unfold storeWrong
    split
    · rename_i hxa
      split
      · rename_i hv
        rw [hv]
        refine lookupWrong_above ?_
        intro p hp
        rcases List.mem_cons.1 hp with rfl | hp
        · exact hxa
        · exact Nat.lt_trans hxa (ha p hp)
      · simp [lookupWrong]
    · split
      · rename_i _ hx
        split
        · rename_i hv; rw [hv, hx]; exact lookupWrong_above ha
        · simp [lookupWrong, hx]
      · simp only [lookupWrong]
        rw [if_neg (by omega)]
        exact ih hl

/-- The wrong bits of every other word stay. -/
theorem lookupWrong_storeWrong_other {x y : Nat} {v : StoredBits} (hxy : x ≠ y) (l : List (Nat × StoredBits)) :
    lookupWrong (storeWrong x v l) y = lookupWrong l y := by
  induction l with
  | nil => unfold storeWrong; split <;> simp_all [lookupWrong]
  | cons q l ih =>
    obtain ⟨a, b⟩ := q
    unfold storeWrong
    split
    · split
      · rfl
      · simp [lookupWrong, hxy]
    · split
      · rename_i _ hx
        split
        · simp [lookupWrong, ← hx, hxy]
        · have : a ≠ y := hx ▸ hxy
          simp [lookupWrong, this]
      · simp only [lookupWrong, ih]

/-! ### Words -/

theorem risingKeys_storeBytes (a : Nat) (w : CellWord) (ks : List Nat) :
    ∀ l : List Host.Cell, risingKeys l = true →
      risingKeys (ks.foldl (fun cs k => storeByte (8 * a + k) (wordByte w k) cs) l) = true := by
  induction ks with
  | nil => exact fun _ h => h
  | cons k ks ih => exact fun l h => ih _ (risingKeys_storeByte h)

theorem wf_iff (m : Memory) : m.wf = true ↔
    risingKeys m.cells = true ∧ risingKeys m.wrong = true ∧ m.wrong.all (fun p => p.2 != 0) = true := by
  simp [Memory.wf, and_assoc]

/-- A WRITE keeps the canonical form. -/
theorem wf_storeWord (a : Nat) (w : CellWord) {m : Memory} (h : m.wf = true) : (storeWord a w m).wf = true := by
  obtain ⟨h₁, h₂, h₃⟩ := (wf_iff m).1 h
  exact (wf_iff _).2 ⟨risingKeys_storeBytes a w _ _ h₁, risingKeys_storeWrong h₂, all_storeWrong h₃⟩

/-- Bits going wrong keep the canonical form. -/
theorem wf_upsetWord (a : Nat) (b : StoredBits) {m : Memory} (h : m.wf = true) : (upsetWord a b m).wf = true := by
  obtain ⟨h₁, h₂, h₃⟩ := (wf_iff m).1 h
  exact (wf_iff _).2 ⟨h₁, risingKeys_storeWrong h₂, all_storeWrong h₃⟩

/-- The empty memory of power-on reset has the canonical form. -/
theorem wf_empty : Memory.wf { cells := [], wrong := [] } = true := rfl

theorem lookupByte_storeBytes (a y : Nat) (w : CellWord) (ks : List Nat) (hks : ks.Nodup) :
    ∀ l : List Host.Cell,
      lookupByte (ks.foldl (fun cs k => storeByte (8 * a + k) (wordByte w k) cs) l) y
        = if y - 8 * a ∈ ks ∧ 8 * a ≤ y then some (wordByte w (y - 8 * a)) else lookupByte l y := by
  induction ks with
  | nil => simp
  | cons k ks ih =>
    intro l
    obtain ⟨hk, hks⟩ := List.nodup_cons.1 hks
    rw [List.foldl_cons, ih hks, lookupByte_storeByte]
    by_cases h : 8 * a + k = y
    · subst h
      simp [hk]
    · simp only [if_neg h, List.mem_cons]
      have : ¬ (y - 8 * a = k ∧ 8 * a ≤ y) := by omega
      by_cases h2 : y - 8 * a ∈ ks ∧ 8 * a ≤ y
      · rw [if_pos h2, if_pos ⟨.inr h2.1, h2.2⟩]
      · rw [if_neg h2, if_neg (by rintro ⟨h3 | h3, h4⟩ <;> simp_all)]

/-- A byte of the memory after a WRITE: the word's byte inside the word, and the old byte outside it. -/
theorem lookupByte_storeWord (a y : Nat) (w : CellWord) (m : Memory) :
    lookupByte (storeWord a w m).cells y
      = if 8 * a ≤ y ∧ y < 8 * a + 8 then some (wordByte w (y - 8 * a)) else lookupByte m.cells y := by
  unfold storeWord
  dsimp only
  rw [lookupByte_storeBytes a y w _ List.nodup_range]
  by_cases h : 8 * a ≤ y ∧ y < 8 * a + 8
  · rw [if_pos h, if_pos ⟨List.mem_range.2 (by omega), h.1⟩]
  · rw [if_neg h, if_neg (by rw [List.mem_range]; omega)]

end Sys2Proof.Machine
end

