-- ==== Sys2Proof/Laws/Queries.lean ====
section
/-! SUPPORT. Queries, once each: the samples that a record's fetches hold, the columns it needs, the candidates of its
waiting fetches, the first of them, and the replies of a held outcome. -/

namespace Sys2Proof.Machine

open Sys2Proof

/-! ### The replies of a held outcome -/

@[simp] theorem heldReplies_nil (o : DepthOutcome) (f : FrameNumber) (held : Nat) : heldReplies o f held [] = [] := rfl

@[simp] theorem heldReplies_cons (o : DepthOutcome) (f : FrameNumber) (held : Nat) (r : QueryRecord) (rs : List QueryRecord) :
    heldReplies o f held (r :: rs)
      = .depthReply r.tag (f.setWidth 16) (min held r.floor) r.correction o noModifiers
        :: heldReplies o f (min held r.floor) rs := rfl

@[simp] theorem heldAfter_nil (held : Nat) : heldAfter held [] = held := rfl

@[simp] theorem heldAfter_cons (held : Nat) (r : QueryRecord) (rs : List QueryRecord) :
    heldAfter held (r :: rs) = heldAfter (min held r.floor) rs := rfl

/-! ### Needed columns and samples -/

/-- The columns of non-zero weight (R86). -/
theorem mem_neededOf {i f x : Nat} : x ∈ neededOf i f ↔ (x = i ∧ f < 256) ∨ (x = i + 1 ∧ 0 < f) := by
  unfold neededOf
  split <;> split <;> simp_all

/-- A sample that the fetches hold is the one the computation reads (R91). -/
theorem sampleAt_of_fetchedSample {g : Geometry} {r : QueryRecord} {x y : Nat} {c : Code} (h : FetchedSample g r x y c) :
    sampleAt g r.fetches x y = c := by
  obtain ⟨f, w, bad, hf, ht, hw, hs, hc, hu⟩ := h
  have ht' : f.tile = tileOf g x y := ht
  have hw' : f.word = wordOf x y := hw
  have found : r.fetches.find? (fun f => f.tile = tileOf g x y ∧ f.word = wordOf x y) = some f := by
    cases e : r.fetches.find? (fun f => decide (f.tile = tileOf g x y ∧ f.word = wordOf x y)) with
    | none => exact absurd (List.find?_eq_none.mp e f hf) (by simp [ht', hw'])
    | some f' =>
      have at' : f'.tile = tileOf g x y ∧ f'.word = wordOf x y := by simpa using List.find?_some e
      rw [hu f' (List.mem_of_find?_eq_some e) (by rw [at'.1, ht']) (by rw [at'.2, hw'])]
  unfold sampleAt
  rw [found]
  obtain ⟨t, k, l, st⟩ := f
  subst hs
  simp only [lane, laneOf, hc]
  congr 2
  omega

/-! ### Candidates -/

/-- The WAITING fetches of a record, in fetch order, each with its index (R108). -/
theorem fetchCandidates_eq (r : QueryRecord) (fs : List Fetch) (k : Nat) :
    fetchCandidates r k fs = ((fs.zipIdx k).filter (fun p => p.1.state == .waiting)).map (fun p =>
      ({ seq := r.seq, index := p.2, urgent := r.urgent, due := r.due, sheet := r.sheet, tile := p.1.tile, word := p.1.word }
        : QueryCandidate)) := by
  induction fs generalizing k with
  | nil => rfl
  | cons f fs ih =>
    simp only [fetchCandidates, List.zipIdx_cons, List.filter_cons, ih (k + 1), Fetch.isWaiting]
    split <;> simp

/-- Among the candidates that `p` admits, the first taken is a row hit with no admitted row hit before it, or it is the
oldest admitted one (R113). -/
theorem hitFirst_filter_split {s : State} {p : QueryCandidate → Bool} {l : List QueryCandidate} {c : QueryCandidate}
    (h : hitFirst s (l.filter p) = some c) :
    ∃ before after, l = before ++ c :: after
      ∧ ∀ d ∈ before, p d = true → isOpenOn s c.tile = true ∧ isOpenOn s d.tile = false := by
  unfold hitFirst at h
  split at h
  · rename_i c' hc
    cases h
    have hopen := List.find?_some hc
    rw [List.find?_filter] at hc
    obtain ⟨_, before, after, e, none_before⟩ := List.find?_eq_some_iff_append.mp hc
    exact ⟨before, after, e, fun d hd hp => ⟨by simpa using hopen, by simpa [hp] using none_before d hd⟩⟩
  · have first : l.find? p = some c := by rw [← List.head?_filter]; exact h
    obtain ⟨_, before, after, e, none_before⟩ := List.find?_eq_some_iff_append.mp first
    exact ⟨before, after, e, fun d hd hp => absurd (none_before d hd) (by simp [hp])⟩

/-- The first taken is one of them. -/
theorem mem_of_hitFirst {s : State} {l : List QueryCandidate} {c : QueryCandidate} (h : hitFirst s l = some c) : c ∈ l := by
  unfold hitFirst at h
  split at h
  · rename_i hc
    cases h
    exact List.mem_of_find?_eq_some hc
  · exact List.mem_of_head? h

end Sys2Proof.Machine
end

