-- ==== Sys2Proof/Laws/Requests.lean ====
section
/-! SUPPORT. The guards that commands share, once each: the taking of a request, of a record and of an event, and the
answer to a request. -/

namespace Sys2Proof.Machine

open Sys2Proof

variable {s t : State} {q : Request} {rest : List Request} {act : State → State}

theorem whileRunning_running (k : Result) (h : s.resetAsserted = false) : whileRunning s k = k := by
  simp [whileRunning, h]

theorem whileRunning_held (k : Result) (h : s.resetAsserted = true) : whileRunning s k = .next s := by
  simp [whileRunning, h]

/-- A request at the front leaves the queue and is carried out (R167). -/
theorem takeRequest_front (h : AtFront q rest s) : takeRequest q act s = .next (act (s.setCellQueue rest)) := by
  simp [takeRequest, whileRunning, h.1, h.2]

/-- A request that is not at the front is not taken (log 1). -/
theorem takeRequest_elsewhere (hr : s.resetAsserted = false) (h : s.cellQueue.head? ≠ some q) :
    takeRequest q act s = .fault .requestNotAtFront := by
  unfold takeRequest
  rw [whileRunning_running _ hr]
  split
  · rfl
  · rename_i r rest hq
    rw [hq] at h
    rw [if_neg (fun e => h (by simp [e]))]

/-- A good record on an UP port is taken, and the port's bad count is 0 (R165). -/
theorem takeRecord_listening {p : Port} (h : Listening p s) : takeRecord p act s = .next (act (afterGoodRecord p s)) := by
  simp [takeRecord, whileRunning, h.1, h.2, afterGoodRecord]

/-- An event that has been raised is taken. -/
theorem takeEvent_due {due : Bool} {why : Fault} (hr : s.resetAsserted = false) (h : due = true) :
    takeEvent due why act s = .next (act s) := by
  simp [takeEvent, whileRunning, hr, h]

/-! ### Sending -/

theorem send_up {p : Port} (r : OutRecord) (h : portUp s p = true) :
    send p r s = setLink p { linkOf s p with toSend := (linkOf s p).toSend ++ [r] } s := by simp [send, h]

theorem send_down {p : Port} (r : OutRecord) (h : portUp s p = false) : send p r s = s := by simp [send, h]

/-- What a record made does to the links depends on the links alone (R161, R166). -/
theorem send_links_congr (p : Port) (r : OutRecord) (h : t.links = s.links) : (send p r t).links = (send p r s).links := by
  have hl : linkOf t p = linkOf s p := by simp [linkOf, h]
  unfold send portUp setLink
  rw [hl]
  split <;> simp [h]

/-! ### Answers -/

/-- A CELL_REPLY after an effect that made no record. -/
theorem answered_answerWith {parts : List Block} {u : State} (r : ReplyResult) (b : ReplyBody)
    (h : Unchanged parts (s.setCellQueue rest) u) (hl : u.links = s.links) (hq : u.cellQueue = rest) :
    Answered q r b rest parts s (answerWith q r b u) := by
  refine ⟨?_, send_links_congr .c _ hl, ?_⟩
  · exact ((answerWith_unchanged q r b u).cellQueue).trans hq
  · have h₁ : Unchanged (.cellQueue :: .links :: parts) s (s.setCellQueue rest) :=
      (setCellQueue_unchanged rest s).mono (by simp)
    have h₂ : Unchanged (.cellQueue :: .links :: parts) (s.setCellQueue rest) u := h.mono (by simp +contextual)
    exact (h₁.trans h₂).trans ((answerWith_unchanged q r b u).mono (by simp))

theorem answered_answerRequest {parts : List Block} {u : State} (r : ReplyResult)
    (h : Unchanged parts (s.setCellQueue rest) u) (hl : u.links = s.links) (hq : u.cellQueue = rest) :
    Answered q r .empty rest parts s (answerRequest q r u) := answered_answerWith r .empty h hl hq

/-- A refusal made when the request is taken (R168). -/
theorem refused_answerRequest (r : Reason) : Refused q r rest s (answerRequest q (.refused r) (s.setCellQueue rest)) :=
  answered_answerRequest _ (.refl _ _) rfl rfl

/-- A report made when the request is taken (R168). -/
theorem answered_report (r : ReplyResult) (b : ReplyBody) :
    Answered q r b rest [] s (answerWith q r b (s.setCellQueue rest)) :=
  answered_answerWith _ _ (.refl _ _) rfl rfl

end Sys2Proof.Machine
end

