-- ==== Sys2Proof/Tests/Slice0.lean ====
section
/-! SUPPORT. Tests: a smoke test of each well-formedness check, records written out byte by byte, the spec's worked cases,
and for each obligation with hypotheses a witness state that meets them. -/

namespace Sys2Proof.Tests

set_option Elab.async false

open Sys2Proof Sys2Proof.Machine

/-! ### Small states -/

/-- A field of the next state, where a command answers one. -/
def after {β : Type} (f : State → β) : Result → Option β
  | .next t => some (f t)
  | .fault _ => none
  | .refused _ => none

/-- The fault that a command stops with. -/
def stopOf : Result → Option Fault
  | .fault r => some r
  | .next _ => none
  | .refused _ => none

/-- The reset state with every port UP. -/
def up : State := State.reset.setLinks (.replicate 8 { up := true, idle := 0, bad := 0, toSend := [] })

/-- A request with tag 1 at the front of the queue, alone. -/
def front (b : CellRequest) (s : State) : State := s.setCellQueue [⟨1, b⟩]

/-- A request with tag 1 taken. -/
def taken (b : CellRequest) (c : Instr) (s : State) : Result := exec c (front b s)

/-- The last record made for a port. -/
def lastOf (p : Port) (s : State) : Option OutRecord := (linkOf s p).toSend.getLast?

def asserted (s : State) : State := { s with resetAsserted := true }
def running (s : State) : State := s.setPort { s.port with state := .run }
def issued (op : MemoryOp) (sheet : Option Nat) (s : State) : State :=
  (running s).setPort { (running s).port with inFlight := some ⟨op, sheet, false, false⟩ }
def queued (es : List Entry) (s : State) : State := s.setDrain { s.drain with queue := es }
def jobs (js : List Job) (s : State) : State := s.setDrain { s.drain with jobs := js }
def reading (w : WindowRead) (s : State) : State := s.setWindow (some w)
def asked (rs : List QueryRecord) (s : State) : State := s.setQueries { s.queries with records := rs }

def smallGeometry (base : Nat) : Geometry := { width := 32, height := 32, pitch := 200, quantum := 10, base := base }

/-- A RELIEF sheet of one tile. -/
def relief (st : SheetState) (accepted written : Nat) (base : Nat := 0) : Sheet :=
  { state := st, kind := .relief { href := 60000, policy := .hold, accepted := accepted, written := written },
    geom := smallGeometry base, voidCount := 0, heldCount := 0, readyWaiting := none, closeWaiting := none }

/-- A LETTER sheet of one tile. -/
def letter (st : SheetState) (base : Nat := 0) : Sheet :=
  { state := st, kind := .letter 900, geom := smallGeometry base, voidCount := 0, heldCount := 0, readyWaiting := none,
    closeWaiting := none }

def withSheet (n : Nat) (x : Sheet) (s : State) : State := setSheet n (some x) s

/-- A BOUND spindle whose active set names a sheet. -/
def bindTo (n : Fin 6) (sheet : Nat) (s : State) : State :=
  setSpindle n { s.spindles[n] with state := .bound, active := { Params.default with sheet := some sheet } } s

/-- A sweep of sheet 0, row 0, with `k` samples of code 7. -/
def sweepOf (k : Nat) : Sweep :=
  { tag := 9, sheet := 0, row := 0, direction := .forward, received := k, long := false, check := 0xABCD,
    lastGood := some 7, samples := List.replicate k 7 }

def filling (w : Sweep) (s : State) : State := setSlot 0 (.filling w) s

/-- A drain entry of sheet 0. -/
def entryOf (kind : EntryKind) (word : Nat) (row : Option Nat) : Entry :=
  { sheet := 0, tile := 0, word := word, lanes := 15, codes := 0, kind := kind, merge := .none, endOfRow := row }

/-- A record of spindle 0 on sheet 0 with one fetch. -/
def recordOf (seq : Count32) (due : FrameNumber) (urgent : Bool) (st : FetchState) : QueryRecord :=
  { seq := seq, spindle := 0, tag := BitVec.ofNat 8 seq.toNat, due := due, urgent := urgent, sheet := 0, i := 0, j := 0,
    fx := 0, fy := 0, params := { Params.default with sheet := some 0, passFloor := 9000 }, correction := 0, floor := 9000,
    fetches := [{ tile := 0, word := 0, lanes := 1, state := st }] }

/-- A window read of sheet 0, one row of four samples at column 0. -/
def windowOf (cursor : Option (Nat × Nat)) (waiting : Nat) : WindowRead :=
  { tag := 8, sheet := 0, column := 0, row := 0, width := 4, height := 1, cursor := cursor, voids := 0, placed := 0,
    chunk := [], cap := 0, hold := 0, nextIndex := 0, waiting := waiting }

/-! ### Well-formedness: one ill-formed command for each check -/

theorem test_wf_name_empty : (Instr.get 1 (.other []) 0 0).wellFormed = false := by decide
theorem test_wf_name_long : (Instr.get 1 (.other (List.replicate 33 65)) 0 0).wellFormed = false := by decide
theorem test_wf_name_known : (Instr.get 1 (.other (settingText .drainLow)) 0 0).wellFormed = false := by decide
theorem test_wf_value_name_known :
    (Instr.set 1 (.param .sheet) 1 (.name (.other (valueText .none)))).wellFormed = false := by decide
theorem test_wf_number_high : (Instr.set 1 (.setting .drainLow) 0 (.number 2147483648)).wellFormed = false := by decide
theorem test_wf_number_low : (Instr.set 1 (.setting .drainLow) 0 (.number (-2147483649))).wellFormed = false := by decide
theorem test_wf_spindle_byte : (Instr.set 1 (.setting .drainLow) 256 (.number 0)).wellFormed = false := by decide
theorem test_wf_selector_byte : (Instr.get 1 (.param .ratio) 1 256).wellFormed = false := by decide
theorem test_wf_open_width : (Instr.sheetOpen 1 0 0 65536 32 10 1 0 0 0 0).wellFormed = false := by decide
theorem test_wf_open_base : (Instr.sheetOpen 1 0 0 32 32 10 1 16777216 0 0 0).wellFormed = false := by decide
theorem test_wf_open_href : (Instr.sheetOpen 1 0 0 32 32 10 1 0 4294967296 0 0).wellFormed = false := by decide
theorem test_wf_ready_byte : (Instr.sheetReady 1 256).wellFormed = false := by decide
theorem test_wf_close_byte : (Instr.sheetClose 1 256).wellFormed = false := by decide
theorem test_wf_status_byte : (Instr.sheetStatus 1 256).wellFormed = false := by decide
theorem test_wf_load_codes : (Instr.loadBlock 1 0 0 0 32 32 (List.replicate 1025 0)).wellFormed = false := by
  decide +kernel
theorem test_wf_window_column : (Instr.readWindow 1 0 65536 0 1 1).wellFormed = false := by decide
theorem test_wf_release_code : (Instr.spindleRelease 1 0 256).wellFormed = false := by decide
theorem test_wf_alarm_unit : (Instr.alarmSet 1 256 0 0 0).wellFormed = false := by decide
theorem test_wf_arrival : (Instr.cellRequestArrives 1 (.sheetReady 256)).wellFormed = false := by decide
theorem test_wf_sweep_row : (Instr.sweepOpen 1 0 0 65536).wellFormed = false := by decide
theorem test_wf_samples_none : (Instr.samples 1 []).wellFormed = false := by decide
theorem test_wf_samples_many : (Instr.samples 1 (List.replicate 513 (0, false))).wellFormed = false := by
  decide +kernel
theorem test_wf_query_coordinate : (Instr.depthQuery 0 1 0 8388608 0).wellFormed = false := by decide
theorem test_wf_touch_length : (Instr.touchOff 0 1 16777216).wellFormed = false := by decide
/-- The bytes are those of a good SHEET_CLOSE of sheet 3. -/
theorem test_wf_bad_record : (Instr.badRecord .c [0x06, 0x07, 0x00, 0x01, 0x03, 0x8E, 0xF6]).wellFormed = false := by
  decide +kernel

/-! ### Records byte by byte (R162 to R165); the checks were computed outside the model -/

/-- The known check of the nine characters 1 to 9 under the generator and register of R29. -/
theorem test_crc_known : crcBytes [0x31, 0x32, 0x33, 0x34, 0x35, 0x36, 0x37, 0x38, 0x39] = 0x29B1 := by decide +kernel
theorem test_record_sheetClose :
    decodeRecord .c [0x06, 0x07, 0x00, 0x01, 0x03, 0x8E, 0xF6] = some (.cellRequestArrives 7 (.sheetClose 3)) := by
  decide +kernel
theorem test_record_set :
    decodeRecord .c [0x01, 0x05, 0x00, 0x13, 0x0C, 0x46, 0x52, 0x41, 0x4D, 0x45, 0x5F, 0x50, 0x45, 0x52, 0x49, 0x4F,
        0x44, 0x00, 0x00, 0x00, 0x00, 0x0F, 0xA0, 0x10, 0xBE]
      = some (.cellRequestArrives 5 (.set (.setting .framePeriod) 0 (.number 4000))) := by decide +kernel
theorem test_record_sweepOpen :
    decodeRecord .t [0x60, 0x09, 0x00, 0x04, 0x03, 0x00, 0x01, 0x2B, 0x23, 0xA8] = some (.sweepOpen 9 3 0 299) := by
  decide +kernel
theorem test_record_samples :
    decodeRecord .t [0x61, 0x09, 0x00, 0x07, 0x00, 0x02, 0x10, 0x72, 0xFF, 0xFF, 0x40, 0xA4, 0xA0]
      = some (.samples 9 [(4210, false), (65535, true)]) := by decide +kernel
theorem test_record_sweepClose :
    decodeRecord .t [0x62, 0x09, 0x00, 0x02, 0xAB, 0xCD, 0xD5, 0x31] = some (.sweepClose 9 0xABCD) := by decide +kernel
theorem test_record_depthQuery :
    decodeRecord (.s 1) [0x80, 0x04, 0x00, 0x08, 0x13, 0x89, 0x00, 0x3A, 0xBD, 0xFF, 0xFF, 0xFE, 0x63, 0x4E]
      = some (.depthQuery 1 4 5001 15037 (-2)) := by decide +kernel
theorem test_record_touchOff :
    decodeRecord (.s 1) [0x81, 0x04, 0x00, 0x03, 0x01, 0xE2, 0x40, 0x76, 0x0F] = some (.touchOff 1 4 123456) := by
  decide +kernel
/-- A tracer record on Port C is of a wrong kind, and a wrong check is bad (R165). -/
theorem test_record_bad :
    decodeRecord .c [0x62, 0x09, 0x00, 0x02, 0xAB, 0xCD, 0xD5, 0x31] = none
      ∧ decodeRecord .t [0x62, 0x09, 0x00, 0x02, 0xAB, 0xCD, 0xD5, 0x32] = none := by decide +kernel
/-- The reply of worked case 1 (section 5.9), in frame 5,000. -/
theorem test_record_depthReply :
    recordBytes (.depthReply 4 5000 8426 (-12) .cut noModifiers)
      = some [0x90, 0x04, 0x00, 0x09, 0x13, 0x88, 0x00, 0x20, 0xEA, 0xFF, 0xF4, 0x00, 0x00, 0x02, 0xB8] := by
  decide +kernel
theorem test_record_frameMark :
    recordBytes (.frameMark 5000 50000000)
      = some [0x92, 0x00, 0x00, 0x0A, 0x00, 0x00, 0x13, 0x88, 0x00, 0x00, 0x02, 0xFA, 0xF0, 0x80, 0x4A, 0x3B] := by
  decide +kernel
theorem test_record_cellReply :
    recordBytes (.cellReply 1 1 .adjusted (.value (.number 1000)))
      = some [0x40, 0x01, 0x00, 0x0A, 0x01, 0x02, 0x00, 0x00, 0x05, 0x00, 0x00, 0x00, 0x03, 0xE8, 0x06, 0xDD] := by
  decide +kernel
theorem test_no_table_words : decodeTableWord 32 5 = none ∧ State.reset.withFetchWord 32 5 = State.reset := by decide

/-! ### The spec's worked cases -/

/-- The geometry of sheet 3 in the addressing example (section 1.3). -/
def sheet3 : Geometry := { width := 6400, height := 3200, pitch := 200, quantum := 10, base := 4096 }

/-- Sheet 3 of the worked cases (section 5.9). -/
def sheet3Scanning (written : Nat) : Sheet :=
  { state := .scanning, kind := .relief { href := 60000, policy := .hold, accepted := written, written := written },
    geom := sheet3, voidCount := 0, heldCount := 0, readyWaiting := none, closeWaiting := none }

/-- The addressing table of section 1.3. -/
theorem test_addressing : extentOf sheet3 = 20000
    ∧ ([(650, 282), (651, 282), (650, 283), (672, 282), (650, 288)].map (fun (x, y) =>
        (tileOf sheet3 x y, (bankOf (tileOf sheet3 x y)).val, bankRowOf (tileOf sheet3 x y), wordOf x y, laneOf x)))
      = [(5716, 4, 714, 210, 2), (5716, 4, 714, 210, 3), (5716, 4, 714, 218, 2), (5717, 5, 714, 208, 0),
          (5916, 4, 739, 2, 2)] := by decide

/-- The active set of spindle 2 in section 5.9. -/
def params2 : Params :=
  { Params.default with
    sheet := some 3, originX := 100000, originY := 40000, ratio := 8192, passFloor := 9000, allowance := 500,
    plungeLimit := 150 }

/-- A query of spindle 2 accepted on sheet 3, with its fetches as completed. -/
def caseRecord (i j fx fy : Nat) (fetches : List Fetch) : QueryRecord :=
  { seq := 0, spindle := 1, tag := 4, due := 1, urgent := false, sheet := 3, i := i, j := j, fx := fx, fy := fy,
    params := params2, correction := -12, floor := 9000, fetches := fetches }

def doneFetch (word : Nat) (tile : Nat) (codes : Nat → Code) : Fetch :=
  { tile := tile, word := word, lanes := 0, state := .done (wordOfLanes codes) false }

/-- Case 1, mapping: the cell and the fractions. -/
theorem test_case1_mapping : gridPosition 100000 false 8192 200 15037 = 166494
    ∧ gridPosition 40000 false 8192 200 8250 = 72320
    ∧ (cellIndex 166494 6400, cellFraction 166494 6400, cellIndex 72320 3200, cellFraction 72320 3200)
      = (650, 94, 282, 128) := by decide

/-- Case 1: two fetches of one bank row, and the reply CUT 8,426 with no modifier. -/
theorem test_case1_cut : (queryFetches sheet3 650 282 94 128).map (fun f => (f.tile, f.word)) = [(5716, 210), (5716, 218)]
    ∧ computeAnswer (sheet3Scanning 300)
        (caseRecord 650 282 94 128
          [doneFetch 210 5716 (fun l => if l = 2 then 4210 else 4230), doneFetch 218 5716 (fun l => if l = 2 then 4190 else 4250)])
        8300 = (.cut, 8426, noModifiers) := by decide

/-- Case 2: one needed sample, and the reply CUT 8,576 with LIMITED. -/
theorem test_case2_cut : (queryFetches sheet3 652 282 0 0).map (fun f => (f.tile, f.word, f.lanes)) = [(5716, 211, 1)]
    ∧ computeAnswer (sheet3Scanning 300) (caseRecord 652 282 0 0 [doneFetch 211 5716 (fun _ => 4160)]) 8426
      = (.cut, 8576, { noModifiers with limited := true }) := by decide

/-- Case 3: the last column, with CLAMPED_FLOOR and LIMITED; one micrometre further lies outside. -/
theorem test_case3_cut :
    (cellIndex 1638144 6400, cellFraction 1638144 6400) = (6398, 256)
    ∧ outsideGrid (gridPosition 100000 false 8192 200 589900) 6400 = false
    ∧ outsideGrid (gridPosition 100000 false 8192 200 589901) 6400 = true
    ∧ computeAnswer (sheet3Scanning 300)
        (caseRecord 6398 282 256 128 [doneFetch 215 5895 (fun _ => 3900), doneFetch 223 5895 (fun _ => 3920)]) 8576
      = (.cut, 8726, { noModifiers with clampedFloor := true, limited := true }) := by decide

/-- Case 4: a VOID code that is not needed is not examined; one that is needed gives HELD_VOID. -/
theorem test_case4_void :
    let word := doneFetch 95 6095 (fun l => if l = 1 then 4300 else 65535)
    computeAnswer (sheet3Scanning 300) (caseRecord 6397 299 0 0 [word]) 8726 = (.cut, 8000, noModifiers)
    ∧ computeAnswer (sheet3Scanning 300) (caseRecord 6397 299 40 0 [word]) 8000 = (.heldVoid, 8000, noModifiers) := by
  decide

/-- The window across the frontier (section 8.4): word 97 of tile 5,899 is offered first. -/
theorem test_window_first_word :
    (offeredWord (startWindow 21 3 101 300 10 3 (withSheet 3 (sheet3Scanning 302) up))).map
      (fun (w, y, k) => (windowTile (withSheet 3 (sheet3Scanning 302) up) w y k, wordOf (4 * k) y))
      = some (5899, 97) := by decide

/-- Alarm units 0 and 1 of section 3.9. -/
def alarms39 (s : State) : State :=
  s.setTime { s.time with
    alarms := #v[{ compare := 0, mask := 0xFFFFFF000000, enabled := true, matching := false },
      { compare := 0, mask := 0xFFFFFF0003FF, enabled := true, matching := true }] }

/-- TIME_SET 33,554,932: unit 0 does not match or fire, unit 1 matches and fires at the load (section 3.9). -/
theorem test_timeSet_alarms :
    after (fun t => (t.time.alarms.toList.map (fun a => a.matching), t.notices.pending, t.time.alarmDue.toList))
      (taken (.timeSet 33554932) (.timeSet 1 33554932) (alarms39 up)) = some ([false, true], 64, [false, false]) := by
  decide +kernel

/-- TICK to 16,777,216 fires unit 0 (section 3.9). -/
theorem test_tick_fires :
    after (fun t => (t.time.machineTime, t.time.alarmDue.toList))
      (exec .tick ((alarms39 up).setTime { (alarms39 up).time with machineTime := 16777215 }))
      = some (16777216, [true, false]) := by decide +kernel

/-- The mark at 50,018,000 of section 3.8: P takes 1,500, U min(2,000, 1,500), and the urgency point falls with it. -/
theorem test_frameMark_period :
    after (fun t => (t.time.frame, t.time.period, t.time.window, t.time.urgencyDue))
      (exec .frameMark ((up.setSettings { up.settings with framePeriod := 1500 }).setTime
        { up.time with frame := 5002, markDue := true })) = some (5003, 1500, 1500, true) := by decide

/-- Four LOAD_BLOCKs take the four buffers and the fifth is refused BUSY (section 9.3, a burst on Port C). -/
theorem test_loadBlock_busy :
    after (lastOf .c) (taken (.loadBlock 8 0 0 1 1 [5]) (.loadBlock 1 8 0 0 1 1 [5])
        ((withSheet 8 (letter .filling) up).setBuffers #v[some [], some [], some [], none]))
      = some (some (.cellReply 1 8 .accepted .empty))
    ∧ after (lastOf .c) (taken (.loadBlock 8 0 0 1 1 [5]) (.loadBlock 1 8 0 0 1 1 [5])
        ((withSheet 8 (letter .filling) up).setBuffers #v[some [], some [], some [], some []]))
      = some (some (.cellReply 1 8 (.refused .busy) .empty)) := by decide

/-! ### One step of each command -/

/-- FRAME_PERIOD is clamped to 1,000 and the SET answered ADJUSTED (R48, R169). -/
theorem test_set_adjusted :
    after (lastOf .c) (taken (.set (.setting .framePeriod) 0 (.number 999)) (.set 1 (.setting .framePeriod) 0 (.number 999)) up)
      = some (some (.cellReply 1 1 .adjusted (.value (.number 1000)))) := by decide
theorem test_get_default :
    after (lastOf .c) (taken (.get (.setting .drainHigh) 0 0) (.get 1 (.setting .drainHigh) 0 0) up)
      = some (some (.cellReply 1 2 .done (.value (.number 48)))) := by decide
theorem test_statusRead_init : (statusBytes (statusReport State.reset)).take 5 = [0, 0, 0, 0, 0] := by decide
/-- Sheet 3 of the addressing example ends at tile 24,095: a base of 24,095 overlaps, 24,096 does not (R10, R11). -/
theorem test_sheetOpen_overlap :
    after (lastOf .c) (taken (.sheetOpen 4 0 32 32 10 1 24095 0 0 0) (.sheetOpen 1 4 0 32 32 10 1 24095 0 0 0)
        (withSheet 3 (sheet3Scanning 0) up)) = some (some (.cellReply 1 4 (.refused .overlap) .empty))
    ∧ after (lastOf .c) (taken (.sheetOpen 4 0 32 32 10 1 24096 0 0 0) (.sheetOpen 1 4 0 32 32 10 1 24096 0 0 0)
        (withSheet 3 (sheet3Scanning 0) up)) = some (some (.cellReply 1 4 .done .empty)) := by decide
theorem test_sheetReady_scanning :
    after (lastOf .c) (taken (.sheetReady 0) (.sheetReady 1 0) (withSheet 0 (relief .scanning 0 0) up))
      = some (some (.cellReply 1 5 (.refused .wrongState) .empty)) := by decide
/-- A close with its WRITE in flight leaves the sheet RETIRING and unanswered (R18). -/
theorem test_sheetClose_retiring :
    after (fun t => ((sheetAt t 0).map (fun x => (x.state, x.closeWaiting)), lastOf .c t))
      (taken (.sheetClose 0) (.sheetClose 1 0) (issued (.write 0 0 0) (some 0) (withSheet 0 (relief .ready 32 32) up)))
      = some (some (.retiring, some 1), none) := by decide
theorem test_sheetStatus_free :
    after (lastOf .c) (taken (.sheetStatus 15) (.sheetStatus 1 15) up)
      = some (some (.cellReply 1 7 .done (.sheet none))) := by decide
/-- A window beyond the frontier is VOID and is answered at once (R154, R155). -/
theorem test_readWindow_void :
    after (fun t => (linkOf t .c).toSend) (taken (.readWindow 0 0 0 2 1) (.readWindow 1 0 0 0 2 1)
        (withSheet 0 (relief .scanning 0 0) up))
      = some [.windowChunk 1 0 [65535, 65535], .cellReply 1 9 .done (.total 2)] := by decide
theorem test_windowCancel :
    after (fun t => (linkOf t .c).toSend) (taken .windowCancel (.windowCancel 1) (reading (windowOf none 0) up))
      = some [.cellReply 8 9 .cancelled .empty, .cellReply 1 10 .done .empty] := by decide
theorem test_ingestHold_rewinds :
    after (fun t => (t.ingest.hold, (linkOf t .t).toSend)) (taken .ingestHold (.ingestHold 1) (filling (sweepOf 3) up))
      = some (true, [.sweepResult 9 .rewound 0 .held]) := by decide
theorem test_ingestFlush_accepted :
    after (fun t => (t.drain.jobs, (sheetAt t 0).map (fun x => x.kind)))
      (taken .ingestFlush (.ingestFlush 1) (jobs [.sweep 0 0 4 3, .sweep 1 0 5 0] (withSheet 0 (relief .scanning 6 4) up)))
      = some ([.sweep 0 0 4 3], some (.relief { href := 60000, policy := .hold, accepted := 5, written := 4 })) := by
  decide
theorem test_spindleRelease_set :
    after (fun t => t.spindles.toList.map (fun c => c.release))
      (taken (.spindleRelease 0b100001 2) (.spindleRelease 1 0b100001 2) up)
      = some [.afterAlarm0, .none, .none, .none, .none, .afterAlarm0] := by decide
theorem test_spindleRetract_answers :
    after (lastOf (.s 0)) (taken (.spindleRetract 1) (.spindleRetract 1 1)
        (asked [recordOf 7 1 false .waiting] (bindTo 0 0 up)))
      = some (some (.depthReply 7 0 0 0 .retract noModifiers)) := by decide
theorem test_noticeAck_bad :
    after (lastOf .c) (taken (.noticeAck 0x400) (.noticeAck 1 0x400) up)
      = some (some (.cellReply 1 19 (.refused .badValue) .empty)) := by decide
theorem test_countersClear :
    after (fun t => t.counters[cntCut]) (taken .countersClear (.countersClear 1) (count cntCut up)) = some 0 := by decide
theorem test_serviceReset_keeps_ready :
    after (fun t => (sheetAt t 0, (sheetAt t 1).isNone)) (taken .serviceReset (.serviceReset 1)
        (withSheet 1 (letter .loading 1) (withSheet 0 (relief .ready 32 32) up)))
      = some (some (relief .ready 32 32), true) := by decide +kernel
/-- The fifth of five waiting requests is refused BUSY (R167). -/
theorem test_arrival_busy :
    after (lastOf .c) (exec (.cellRequestArrives 6 .statusRead) (up.setCellQueue (List.replicate 4 ⟨1, .statusRead⟩)))
      = some (some (.cellReply 6 3 (.refused .busy) .empty)) := by decide
theorem test_sweepOpen_rowOrder :
    after (lastOf .t) (exec (.sweepOpen 9 0 0 5) (withSheet 0 (relief .scanning 4 3) up))
      = some (some (.sweepResult 9 .refused 4 .rowOrder)) := by decide
/-- A BACKWARD sweep under HOLD: a leading dropout is VOID, a later one takes the last good code, which follows it in
column order (R26, R27). -/
theorem test_samples_backward :
    after (fun t => ((fillingSweep t).map (fun (_, w) => w.samples), (sheetAt t 0).map (fun x => (x.voidCount, x.heldCount))))
      (exec (.samples 9 [(1, true), (65535, false), (3, true)])
        (filling { sweepOf 0 with direction := .backward, lastGood := none } (withSheet 0 (relief .scanning 0 0) up)))
      = some (some [65534, 65534, 65535], some (1, 1)) := by decide
theorem test_sweepClose_check :
    after (lastOf .t) (exec (.sweepClose 9 0x1234) (filling (sweepOf 32) (withSheet 0 (relief .scanning 0 0) up)))
      = some (some (.sweepResult 9 .rewound 0 .check)) := by decide
theorem test_depthQuery_unbound :
    after (lastOf (.s 3)) (exec (.depthQuery 3 5 1 0 0) up)
      = some (some (.depthReply 5 0 0 0 .heldUnbound noModifiers)) := by decide
theorem test_touchOff_range :
    after (fun t => (lastOf (.s 0) t, t.notices.pending)) (exec (.touchOff 0 5 501) up)
      = some (some (.touchResult 5 false (-501)), 8) := by decide
theorem test_idle_64_brings_up :
    after (fun t => (portUp t .t, t.notices.pending))
      (exec (.idleSymbol .t) (State.reset.setLinks (.replicate 8 { up := false, idle := 63, bad := 0, toSend := [] })))
      = some (true, 128) := by decide
theorem test_bad_8_takes_down :
    after (fun t => (portUp t .t, t.counters[(1 : Fin 28)]))
      (exec (.badRecord .t []) (up.setLinks (.replicate 8 { up := true, idle := 0, bad := 7, toSend := [] })))
      = some (false, 1) := by decide
theorem test_releaseCondition_at_alarm :
    after (fun t => (t.spindles[(2 : Fin 6)]).alarmFired)
      (exec (.alarmFire 1) (setSpindle 2 { up.spindles[(2 : Fin 6)] with release := .afterAlarm1 }
        (up.setTime { up.time with alarmDue := #v[false, true] }))) = some true := by decide
theorem test_initialisation_starts_refresh :
    after (fun t => (t.port.state, t.port.refreshLeft)) (exec .initialisationComplete up) = some (.run, some 78) := by decide
/-- The last row's end-of-row WRITE makes the sheet READY with SHEET_COMPLETE (R14, R43). -/
theorem test_writeComplete_ready :
    after (fun t => ((sheetAt t 0).map (fun x => x.state), t.notices.pending))
      (exec .writeComplete (queued [entryOf .sweep 255 (some 31)]
        (issued (.write 0 255 0) (some 0) (withSheet 0 (relief .scanning 32 31) up)))) = some (some .ready, 1) := by
  decide +kernel
/-- A written word with two wrong bits is uncorrectable: MEMORY_FAULT (R141). -/
theorem test_readComplete_uncorrectable :
    after (fun t => (t.notices.pending, t.counters[cntUncorrectable]))
      (exec (.readComplete 3) ((issued (.read 0 0 .merge) (some 0) up).setMem (storeWord 0 5 up.mem))) = some (16, 1) := by
  decide +kernel
theorem test_refreshComplete :
    after (fun t => t.port.owed) (exec .refreshComplete
      ((issued .refresh none up).setPort { (issued .refresh none up).port with owed := 1 })) = some 0 := by decide
theorem test_overrun_at_8 :
    after (fun t => (t.port.owed, t.counters[cntRefreshOverruns]))
      (exec .refreshIntervalExpiry (up.setPort { up.port with owed := 8, refreshLeft := some 0 })) = some (8, 1) := by decide
theorem test_feeder_last_entry :
    after (fun t => (t.drain.jobs, t.drain.queue.map (fun e => (e.word, e.endOfRow)), t.ingest.slots[(0 : Fin 2)]))
      (exec .feederMakeEntry (jobs [.sweep 0 0 2 7] (setSlot 0 (.draining (sweepOf 32)) (withSheet 0 (relief .scanning 3 2) up))))
      = some ([], [(23, some 2)], .free) := by decide
theorem test_timer_expiry_marks :
    after (fun t => (t.port.banks[(3 : Fin 8)]).closeWanted)
      (exec (.rowCloseTimerExpiry 3)
        (setBank 3 { row := some 9, timer := some 0, closeWanted := false, accessed := true } up)) = some true := by decide
theorem test_chunkSent_stops : stopOf (exec .windowChunkSent up) = some .noChunkWaiting := by decide

/-! ### Witnesses: states and operands that meet the hypotheses of the obligations -/

theorem front_atFront (b : CellRequest) (s : State) (h : s.resetAsserted = false) : AtFront ⟨1, b⟩ [] (front b s) :=
  ⟨h, rfl⟩

theorem up_listening (p : Port) : Listening p up := ⟨rfl, by cases p <;> simp [portUp, linkOf, up]⟩

theorem witness_StepRunsFrontCommand :
    (up.setPending [.tick, .statusRead 1]).pending = .tick :: [.statusRead 1] ∧ up.pending = [] := ⟨rfl, rfl⟩

theorem witness_PowerOnResetGivesItsValuesAndHoldsThePart :
    (asserted up).resetAsserted = true ∧ Instr.tick ≠ .powerOnReset ∧ Instr.tick ≠ .powerOnResetRelease := by decide

/-- With three requests in the queue there is room, with four there is none. -/
theorem witness_ArrivingRequestJoinsTheQueueOrMeetsBusy :
    let q (k : Nat) := up.setCellQueue (List.replicate k ⟨2, .statusRead⟩)
    Listening .c (q 3) ∧ (q 3).cellQueue.length < 4 ∧ Listening .c (q 4) ∧ 4 ≤ (q 4).cellQueue.length :=
  ⟨⟨rfl, rfl⟩, by decide, ⟨rfl, rfl⟩, by decide⟩

theorem witness_EveryRequestIsTakenFromTheFront :
    (Instr.statusRead 1).request? = some ⟨1, .statusRead⟩ ∧ AtFront ⟨1, .statusRead⟩ [] (front .statusRead up)
      ∧ up.resetAsserted = false ∧ up.cellQueue.head? ≠ some ⟨1, .statusRead⟩ :=
  ⟨rfl, front_atFront _ _ rfl, rfl, by decide⟩

/-- 8 and 64 are the ends of DRAIN_HIGH; 65 lies beyond. -/
theorem witness_SetStoresAGlobalNumber : settingRange .drainHigh = some (8, 64)
    ∧ ∀ n : Int, AtFront ⟨1, .set (.setting .drainHigh) 0 (.number n)⟩ []
        (front (.set (.setting .drainHigh) 0 (.number n)) up) := ⟨rfl, fun _ => ⟨rfl, rfl⟩⟩

/-- 1,023 is a set of the ten sources, and 1,024 names none of them. -/
theorem witness_SetFitsTheSettingsOfTheirOwnForm : 8 ≤ up.settings.drainHigh
    ∧ (∀ k v, AtFront ⟨1, .set (.setting k) 0 v⟩ [] (front (.set (.setting k) 0 v) up))
    ∧ Value.sources 1023 = .sources ((1023 : SourceSet).setWidth 16)
    ∧ (∀ x : SourceSet, Value.sources 1024 ≠ .sources (x.setWidth 16))
    ∧ Value.name .on = .name (if true then .on else .off)
    ∧ (Value.number 1 ≠ .name .on ∧ Value.number 1 ≠ .name .off) := by
  refine ⟨by decide, fun _ _ => ⟨rfl, rfl⟩, rfl, ?_, rfl, by decide⟩
  intro x h
  have e := congrArg BitVec.toNat (Value.sources.inj h)
  have := x.isLt
  rw [BitVec.toNat_setWidth_of_le (by decide)] at e
  have e' : (1024 : Nat) = x.toNat := e
  omega

/-- Eight entries: DRAIN_HIGH 8 is reached, 9 is not, and in WRITE_FIRST the queue stands above the low mark. -/
theorem witness_SetOfADrainMarkJudgesTheBaseMode :
    let s := queued (List.replicate 8 (entryOf .sweep 0 none)) up
    let run (n : Int) := after (fun t => t.settings.drainHigh)
      (taken (.set (.setting .drainHigh) 0 (.number n)) (.set 1 (.setting .drainHigh) 0 (.number n)) s)
    s.sched.baseMode = .readFirst ∧ s.drain.queue.length = 8 ∧ run 8 = some 8 ∧ run 9 = some 9
      ∧ (s.setSched { s.sched with baseMode := .writeFirst }).sched.baseMode = .writeFirst := by decide

theorem witness_SetStagesASpindleParameter : paramRange .plungeLimit = some (1, 65535)
    ∧ (∀ k (m : Fin 6) v, AtFront ⟨1, .set (.param k) (m + 1) v⟩ [] (front (.set (.param k) (m + 1) v) up))
    ∧ (∃ n : Nat, n ≤ 15 ∧ Value.number 15 = .number n) ∧ ¬ (∃ n : Nat, n ≤ 15 ∧ Value.number 16 = .number n) := by
  refine ⟨rfl, fun _ _ _ => ⟨rfl, rfl⟩, ⟨15, by decide, rfl⟩, ?_⟩
  rintro ⟨n, hn, h⟩
  have := Value.number.inj h
  omega

/-- Spindle numbers 0 and 7 do not fit a spindle parameter, and 1 does not fit a global setting. -/
theorem witness_SetRefusesBadNamesAndForms :
    (∀ n k v, AtFront ⟨1, .set n k v⟩ [] (front (.set n k v) up)) ∧ ¬ (1 ≤ 0 ∧ 0 ≤ 6) ∧ ¬ (1 ≤ 7 ∧ 7 ≤ 6) ∧ (1 : Nat) ≠ 0
      ∧ (∀ n, Value.name .on ≠ .number n) := ⟨fun _ _ _ => ⟨rfl, rfl⟩, by decide, by decide, by decide, nofun⟩

theorem witness_GetReturnsWhatIsStored :
    (∀ n k sel, AtFront ⟨1, .get n k sel⟩ [] (front (.get n k sel) up)) ∧ (6 : Nat) = ((5 : Fin 6) : Nat) + 1
      ∧ (3 : Nat) ≠ 1 ∧ (3 : Nat) ≠ 2 := ⟨fun _ _ _ => ⟨rfl, rfl⟩, by decide, by decide, by decide⟩

/-- Sheet 16 is no sheet, 15 is FREE, and 0 is open; a LETTER sheet with its fill job at word 7, and one with none. -/
theorem witness_ReportsGiveWhatStandsAndChangeNothing :
    let s := withSheet 0 (relief .scanning 3 2) up
    let l (st : SheetState) (js : List Job) := jobs js (withSheet 0 (letter st) up)
    AtFront ⟨1, .statusRead⟩ [] (front .statusRead s) ∧ AtFront ⟨1, .countersRead⟩ [] (front .countersRead s)
      ∧ (∀ n, AtFront ⟨1, .sheetStatus n⟩ [] (front (.sheetStatus n) s)) ∧ 15 < 16
      ∧ sheetAt (front (.sheetStatus 15) s) 15 = none
      ∧ sheetAt (front (.sheetStatus 0) s) 0 = some (relief .scanning 3 2)
      ∧ (relief .scanning 3 2).kind = .relief { href := 60000, policy := .hold, accepted := 3, written := 2 }
      ∧ sheetAt (l .filling [.fill 0 7]) 0 = some (letter .filling) ∧ (letter .filling).kind = .letter 900
      ∧ (l .filling [.fill 0 7]).drain.jobs = [] ++ .fill 0 7 :: [] ∧ (∀ k, Job.fill 0 k ∉ ([] : List Job))
      ∧ sheetAt (l .loading []) 0 = some (letter .loading) ∧ (∀ k, Job.fill 0 k ∉ (l .loading []).drain.jobs) :=
  ⟨⟨rfl, rfl⟩, ⟨rfl, rfl⟩, fun _ => ⟨rfl, rfl⟩, by decide, by decide, by decide, rfl, by decide, rfl, rfl,
    fun _ => List.not_mem_nil, by decide, fun _ => List.not_mem_nil⟩

/-- A taken extent is found among the sheets; so none is taken where none is found. -/
theorem not_extentTaken {s : State} {b c : Nat}
    (h : s.sheets.toList.any (fun o => o.any (fun x => b < x.geom.base + extentOf x.geom && x.geom.base < b + c)) = false) :
    ¬ ExtentTaken s b c := by
  rintro ⟨m, x, hx, h₁, h₂⟩
  have hm : s.sheets[m]? = some (some x) := by
    unfold sheetAt at hx
    cases e : s.sheets[m]? with
    | none => rw [e] at hx; cases hx
    | some o => rw [e] at hx; exact congrArg some hx
  have hmem : some x ∈ s.sheets.toList := by
    rw [Vector.getElem?_eq_some_iff] at hm
    obtain ⟨hlt, he⟩ := hm
    rw [← he]
    simp
  rw [List.any_eq_false] at h
  exact h _ hmem (by simp [h₁, h₂])

/-- Sheet 0 holds tile 0: a base of 0 is taken, 1 is not, 131,071 is the last with room. -/
theorem witness_SheetOpenIsRefusedByTheFirstCheckThatFails :
    let s := jobs [.fill 0 0] (withSheet 0 (letter .filling) up)
    (∀ n k w h p q b hr po f, AtFront ⟨1, .sheetOpen n k w h p q b hr po f⟩ [] (front (.sheetOpen n k w h p q b hr po f) s))
      ∧ 15 < 16 ∧ sheetAt s 0 ≠ none ∧ sheetAt s 15 = none
      ∧ ¬ OpenFieldsLawful 0 31 32 10 1 0 0 0 ∧ ¬ OpenFieldsLawful 0 16416 32 10 1 0 0 0
      ∧ OpenFieldsLawful 1 16384 32 2000 50 0 0 2000000 ∧ OpenFieldsLawful 1 32 32 10 1 0 0 0
      ∧ 131072 < 131072 + (32 / 32) * (32 / 32) ∧ 131071 + (32 / 32) * (32 / 32) ≤ 131072
      ∧ ExtentTaken s 0 ((32 / 32) * (32 / 32)) ∧ ¬ ExtentTaken s 1 ((32 / 32) * (32 / 32))
      ∧ ∃ m next, Job.fill m next ∈ s.drain.jobs :=
  ⟨fun _ _ _ _ _ _ _ _ _ _ => ⟨rfl, rfl⟩, by decide, by decide, by decide, by unfold OpenFieldsLawful; decide,
    by unfold OpenFieldsLawful; decide, by unfold OpenFieldsLawful; decide, by unfold OpenFieldsLawful; decide,
    by decide, by decide, ⟨0, letter .filling, by decide, by decide, by decide⟩, not_extentTaken (by decide),
    ⟨0, 0, by decide⟩⟩

theorem witness_SheetOpenOpensTheSheetAskedFor :
    (∀ k, AtFront ⟨1, .sheetOpen 15 k 32 32 10 1 131071 0 0 0⟩ [] (front (.sheetOpen 15 k 32 32 10 1 131071 0 0 0) up))
      ∧ sheetAt up 15 = none ∧ OpenFieldsLawful 0 32 32 10 1 0 0 0 ∧ OpenFieldsLawful 1 32 32 10 1 0 0 0
      ∧ 131071 + (32 / 32) * (32 / 32) ≤ 131072 ∧ ¬ ExtentTaken up 131071 ((32 / 32) * (32 / 32))
      ∧ ∀ m next, Job.fill m next ∉ up.drain.jobs :=
  ⟨fun _ => ⟨rfl, rfl⟩, by decide, by unfold OpenFieldsLawful; decide, by unfold OpenFieldsLawful; decide, by decide,
    not_extentTaken (by decide), fun _ _ h => nomatch h⟩

theorem witness_SheetReadyIsAnsweredByTheSheetState :
    (∀ n s, s.resetAsserted = false → AtFront ⟨1, .sheetReady n⟩ [] (front (.sheetReady n) s)) ∧ sheetAt up 15 = none
      ∧ (∀ st : SheetState, sheetAt (withSheet 0 (letter st) up) 0 = some (letter st))
      ∧ (letter .loading).readyWaiting = none ∧ (∀ j ∈ up.drain.jobs, j.sheetOf ≠ 0) ∧ (∀ e ∈ up.drain.queue, e.sheet ≠ 0)
      ∧ ({ letter .loading with readyWaiting := some 4 } : Sheet).readyWaiting ≠ none :=
  ⟨fun _ _ h => ⟨h, rfl⟩, by decide, fun st => by cases st <;> decide, rfl, by decide, by decide, by decide⟩

theorem witness_SheetCloseEndsTheWorkOfTheSheet :
    let s := withSheet 0 (relief .ready 32 32) up
    let r := withSheet 0 (relief .retiring 32 32) up
    (∀ n, AtFront ⟨1, .sheetClose n⟩ [] (front (.sheetClose n) s)) ∧ sheetAt s 0 = some (relief .ready 32 32)
      ∧ (relief .ready 32 32).state ≠ .retiring ∧ inFlightFor s 0 = false ∧ portUp s .c = true
      ∧ inFlightFor (issued (.write 0 0 0) (some 0) s) 0 = true ∧ sheetAt s 15 = none
      ∧ sheetAt r 0 = some (relief .retiring 32 32) ∧ (relief .retiring 32 32).state = .retiring :=
  ⟨fun _ => ⟨rfl, rfl⟩, by decide, by decide, by decide, by decide, by decide, by decide, by decide, rfl⟩

/-- A SCANNING sheet with a FILLING sweep, a sweep job, a window read and 17 entries, of which its close leaves none: the
base mode falls from WRITE_FIRST. A FILLING sheet with a load job and a waiting SHEET_READY. -/
theorem witness_SheetClose_work :
    let s := (queued (List.replicate 17 (entryOf .sweep 0 none)) (jobs [.sweep 1 0 2 0] (setSlot 1 (.closed (sweepOf 32))
      (filling (sweepOf 3) (reading (windowOf none 0) (asked [recordOf 7 1 false .waiting]
        (withSheet 0 (relief .scanning 3 2) up)))))))
    let w := s.setSched { s.sched with baseMode := .writeFirst }
    let l := jobs [.load 2 0 0 0 1 1 0] (withSheet 0 { letter .loading with readyWaiting := some 4 } up)
    (∃ y k, Job.sweep 1 0 y k ∈ s.drain.jobs) ∧ fillingSweep s = some (0, sweepOf 3) ∧ (sweepOf 3).sheet = 0
      ∧ (∀ y k, Job.sweep 0 0 y k ∉ s.drain.jobs) ∧ (∀ y k, Job.sweep 1 0 y k ∉ l.drain.jobs)
      ∧ (∀ v, l.ingest.slots[(1 : Fin 2)] = .filling v → v.sheet ≠ 0) ∧ portUp s .t = true ∧ portUp s (.s 0) = true
      ∧ w.sched.baseMode = .writeFirst ∧ s.sched.baseMode = .readFirst
      ∧ after (fun t => (t.drain.queue.length, t.sched.baseMode, lastOf (.s 0) t, lastOf .t t))
          (taken (.sheetClose 0) (.sheetClose 1 0) w)
        = some (0, .readFirst, some (.depthReply 7 0 0 0 .heldNoSheet noModifiers),
            some (.sweepResult 9 .rewound 0 .closed))
      ∧ after (fun t => (linkOf t .c).toSend) (taken (.sheetClose 0) (.sheetClose 1 0) l)
        = some [.cellReply 4 5 (.refused .noSheet) .empty, .cellReply 1 6 .done .empty] := by
  refine ⟨⟨2, 0, by decide⟩, by decide, rfl, fun y k h => ?_, fun y k h => ?_, ?_, by decide, by decide, rfl, rfl, by decide,
    by decide⟩
  · exact absurd (List.mem_singleton.mp h) (by simp)
  · exact absurd (List.mem_singleton.mp h) (by simp)
  · intro v h; cases h

/-- A rectangle that reaches the sheet's last column and row is lawful, one that passes it is not. -/
theorem witness_LoadBlockIsAcceptedOrRefused :
    let s := withSheet 0 (letter .filling) up
    let full := s.setBuffers #v[some [], some [], some [], some []]
    (∀ n x y w h cs, AtFront ⟨1, .loadBlock n x y w h cs⟩ [] (front (.loadBlock n x y w h cs) s))
      ∧ (∀ sh, sheetAt s 15 = some sh → sh.state ≠ .filling ∧ sh.state ≠ .loading) ∧ sheetAt s 0 = some (letter .filling)
      ∧ (0 < 32 ∧ 0 < 32 ∧ 32 * 32 ≤ 1024 ∧ (List.replicate 1024 (0 : Code)).length = 32 * 32 ∧ 0 + 32 ≤ 32)
      ∧ ¬ (1 + 32 ≤ 32) ∧ (∀ b : Fin 4, full.buffers[b] ≠ none) ∧ s.buffers[(0 : Fin 4)] = none
      ∧ (∀ a : Fin 4, a < 0 → s.buffers[a] ≠ none) := by
  refine ⟨fun _ _ _ _ _ _ => ⟨rfl, rfl⟩, ?_, by decide,
    ⟨by decide, by decide, by decide, List.length_replicate, by decide⟩, by decide, by decide, by decide, fun a h => ?_⟩
  · intro sh h
    have : sheetAt (withSheet 0 (letter .filling) up) 15 = none := by decide
    rw [this] at h
    cases h
  · exact absurd h (by omega)

/-- Row 1 is the last row below a frontier of 2; with the frontier at 2 a window from row 2 on is all VOID. -/
theorem witness_ReadWindowStartsOrIsRefused :
    let s := withSheet 0 (relief .scanning 2 2) up
    (∀ n x y w h, AtFront ⟨1, .readWindow n x y w h⟩ [] (front (.readWindow n x y w h) s)) ∧ s.window = none
      ∧ windowReadInFlight s = false ∧ portUp s .c = true ∧ s.port.state = .init
      ∧ sheetAt s 0 = some (relief .scanning 2 2)
      ∧ (∃ r, (relief .scanning 2 2).state = .scanning ∧ (relief .scanning 2 2).kind = .relief r ∧ 1 < r.written
          ∧ r.written ≤ 2)
      ∧ (0 < 32 ∧ 0 < 30 ∧ 8 * 30 ≤ 65536 ∧ 24 + 8 ≤ 32 ∧ 2 + 30 ≤ 32 ∧ 8 * 30 < s.settings.chunkCap)
      ∧ (reading (windowOf none 0) s).window ≠ none
      ∧ (∀ sh, sheetAt s 15 = some sh → sh.state ≠ .scanning ∧ sh.state ≠ .ready)
      ∧ ¬ (0 < 33 ∧ 0 + 33 ≤ (relief .scanning 2 2).geom.width) := by
  refine ⟨fun _ _ _ _ _ => ⟨rfl, rfl⟩, rfl, rfl, by decide, rfl, by decide, ⟨_, rfl, rfl, by decide, by decide⟩,
    by decide, by decide, ?_, by decide⟩
  intro sh h
  have : sheetAt (withSheet 0 (relief .scanning 2 2) up) 15 = none := by decide
  rw [this] at h
  cases h

/-- Beyond the frontier, 256 samples of CHUNK_CAP 256 and 261. -/
theorem witness_ReadWindow_void :
    let s := withSheet 0 (relief .scanning 0 0) up
    (∀ n x y w h, AtFront ⟨1, .readWindow n x y w h⟩ [] (front (.readWindow n x y w h) s)) ∧ s.window = none
      ∧ windowReadInFlight s = false ∧ sheetAt s 0 = some (relief .scanning 0 0)
      ∧ (relief .scanning 0 0).kind = .relief { href := 60000, policy := .hold, accepted := 0, written := 0 }
      ∧ 8 * 32 ≤ s.settings.chunkCap ∧ s.settings.chunkCap < 9 * 29 ∧ 0 + 32 ≤ 32 ∧ portUp s .c = true :=
  ⟨fun _ _ _ _ _ => ⟨rfl, rfl⟩, rfl, rfl, by decide, rfl, by decide, by decide, by decide, by decide⟩

/-- With the port idle in RUN the row's first word is offered to the choice, which opens its bank. -/
theorem witness_ReadWindow_idle :
    let s := withSheet 0 (relief .scanning 2 2) (running up)
    sheetAt s 0 = some (relief .scanning 2 2) ∧ s.port.state = .run ∧ s.port.inFlight = none
      ∧ after (fun t => (t.port.inFlight.map (fun o => o.op), t.window.map (fun v => v.cursor)))
          (taken (.readWindow 0 0 1 4 1) (.readWindow 1 0 0 1 4 1) s) = some (some (.openRow 0 0), some (some (1, 0))) := by
  decide +kernel

theorem witness_WindowCancelEndsTheWindow :
    let s := reading (windowOf none 0) (issued (.read 0 0 (.window 0 0)) (some 0) up)
    AtFront ⟨1, .windowCancel⟩ [] (front .windowCancel s) ∧ AtFront ⟨1, .windowCancel⟩ [] (front .windowCancel up)
      ∧ up.window = none ∧ s.window = some (windowOf none 0) ∧ portUp s .c = true
      ∧ ∃ o, s.port.inFlight = some o ∧ ∃ tile word y k, o.op = .read tile word (.window y k) :=
  ⟨⟨rfl, rfl⟩, ⟨rfl, rfl⟩, rfl, rfl, by decide, _, rfl, _, _, _, _, rfl⟩

theorem witness_ChunkSentInFullLetsTheReaderGoOn :
    let s := setLink .c { linkOf up .c with toSend := [.cellReply 3 20 .done .empty, .windowChunk 8 0 [5]] } up
    up.resetAsserted = false
      ∧ (linkOf s .c).toSend = [.cellReply 3 20 .done .empty] ++ .windowChunk 8 0 [5] :: []
      ∧ [OutRecord.cellReply 3 20 .done .empty].all (fun r => !r.isChunk) = true
      ∧ (reading (windowOf none 1) s).window = some (windowOf none 1) ∧ (windowOf none 1).voids = 0 ∧ s.window = none
      ∧ (linkOf up .c).toSend.all (fun r => !r.isChunk) = true
      ∧ ([] : List OutRecord).countP OutRecord.isChunk = 0
      ∧ [OutRecord.windowChunk 8 1 [5]].countP OutRecord.isChunk ≠ 0
      ∧ (windowOf (some (0, 1)) 1).cursor = some (0, 1) ∧ (windowOf (some (0, 1)) 1).waiting ≠ 0 := by decide

/-- VOID codes left to place, 3, 4 or 5 where the open chunk has room for 4: none waits but for another chunk of the window, and
none while a window READ is in flight. At room 4 the window of 64 samples is complete with 4. -/
theorem witness_ChunkSent_voids :
    let w (voids waiting height : Nat) : WindowRead :=
      { windowOf none waiting with height := height, voids := voids, placed := 60, chunk := List.replicate 60 5, cap := 64 }
    let s (v : WindowRead) := reading v (setLink .c { linkOf up .c with toSend := [.windowChunk 8 0 [5]] } up)
    let busy := issued (.read 0 0 (.window 0 0)) (some 0) (s (w 4 1 17))
    (∀ v, (s v).window = some v) ∧ (w 4 1 17).waiting ≠ 0 ∧ [OutRecord.windowChunk 8 1 [5]].countP OutRecord.isChunk ≠ 0
      ∧ WindowReadUnderWay busy ∧ busy.window = some (w 4 1 17) ∧ ¬ WindowReadUnderWay (s (w 4 1 17))
      ∧ (∀ v, portUp (s v) .c = true) ∧ (w 4 1 17).chunk.length < (w 4 1 17).cap ∧ (w 4 1 17).chunk ≠ []
      ∧ (w 5 1 17).placed + (w 5 1 17).voids ≤ (w 5 1 17).width * (w 5 1 17).height
      ∧ (w 4 1 16).placed + (w 4 1 16).voids = (w 4 1 16).width * (w 4 1 16).height
      ∧ after (fun t => t.window.map (fun v => (v.voids, v.chunk.length, v.waiting))) (exec .windowChunkSent (s (w 3 1 17)))
        = some (some (0, 63, 0))
      ∧ after (fun t => t.window.map (fun v => (v.voids, v.chunk.length, v.waiting))) (exec .windowChunkSent (s (w 5 1 17)))
        = some (some (1, 0, 1))
      ∧ after (fun t => t.window.isSome) (exec .windowChunkSent (s (w 4 1 16))) = some false := by
  refine ⟨fun _ => rfl, by decide, by decide, ⟨_, rfl, rfl, _, _, _, _, rfl⟩, rfl, ?_, fun _ => by rfl, by decide, by decide,
    by decide, by decide, by decide +kernel, by decide +kernel, by decide +kernel⟩
  rintro ⟨o, h, -⟩
  cases h

theorem witness_IngestHoldAndReleaseGovernTheHoldFlag :
    let s := filling (sweepOf 3) up
    AtFront ⟨1, .ingestHold⟩ [] (front .ingestHold s) ∧ AtFront ⟨1, .ingestRelease⟩ [] (front .ingestRelease s)
      ∧ fillingSweep up = none ∧ fillingSweep s = some (0, sweepOf 3) ∧ portUp s .t = true ∧ portUp s .c = true :=
  ⟨⟨rfl, rfl⟩, ⟨rfl, rfl⟩, by decide, by decide, by decide, by decide⟩

theorem witness_IngestFlushDropsTheSweepJobsNotBegun :
    let s := jobs [.sweep 1 0 5 0] (filling (sweepOf 3) (withSheet 0 (relief .scanning 6 5) up))
    AtFront ⟨1, .ingestFlush⟩ [] (front .ingestFlush s) ∧ Job.sweep 1 0 5 0 ∈ s.drain.jobs
      ∧ fillingSweep s = some (0, sweepOf 3) ∧ sheetAt s 0 = some (relief .scanning 6 5)
      ∧ (relief .scanning 6 5).state = .scanning ∧ (∃ r, (relief .scanning 6 5).kind = .relief r) ∧ sheetAt s 15 = none
      ∧ portUp s .t = true ∧ portUp s .c = true ∧ fillingSweep up = none
      ∧ (∀ n y, Job.sweep 0 n y 0 ∉ up.drain.jobs) ∧ (∀ w, up.ingest.slots[(0 : Fin 2)] ≠ .filling w) :=
  ⟨⟨rfl, rfl⟩, by decide, by decide, by decide, rfl, ⟨_, rfl⟩, by decide, by decide, by decide, by decide,
    fun _ _ => List.not_mem_nil, nofun⟩

/-- Row 31 is the last of the sheet; two rows accepted beyond those written fill the slots. -/
theorem witness_SweepOpenStartsASweepOrIsRefused :
    let s := withSheet 0 (relief .scanning 31 30) up
    Listening .t s ∧ s.ingest.hold = false ∧ sheetAt s 0 = some (relief .scanning 31 30)
      ∧ (relief .scanning 31 30).kind = .relief { href := 60000, policy := .hold, accepted := 31, written := 30 }
      ∧ 31 < (relief .scanning 31 30).geom.height ∧ 31 < 30 + 2 ∧ 30 + 2 ≤ 32
      ∧ s.ingest.slots[(0 : Fin 2)] = .free ∧ fillingSweep s = none
      ∧ fillingSweep (filling (sweepOf 3) s) = some (0, sweepOf 3)
      ∧ (s.setIngest { s.ingest with hold := true }).ingest.hold = true ∧ sheetAt s 15 = none
      ∧ (letter .ready).kind = .letter 900 ∧ (letter .ready).state ≠ .retiring
      ∧ (∀ i : Fin 2, (setSlot 1 (.closed (sweepOf 3)) (setSlot 0 (.closed (sweepOf 3)) s)).ingest.slots[i] ≠ .free)
      ∧ fillingSweep (setSlot 1 (.closed (sweepOf 3)) (setSlot 0 (.closed (sweepOf 3)) s)) = none :=
  ⟨⟨rfl, rfl⟩, rfl, by decide, rfl, by decide, by decide, by decide, by decide, by decide, by decide, rfl, by decide, rfl,
    by decide, by decide, by decide⟩

/-- A sweep with 31 of 32 samples takes one more, one with 32 takes none. -/
theorem witness_SamplesArePlacedByDirectionAndPolicy :
    let s (k : Nat) := filling (sweepOf k) (withSheet 0 (relief .scanning 0 0) up)
    Listening .t (s 31) ∧ fillingSweep (s 31) = some (0, sweepOf 31) ∧ fillingSweep (s 32) = some (0, sweepOf 32)
      ∧ sheetAt (s 31) (sweepOf 31).sheet = some (relief .scanning 0 0)
      ∧ (relief .scanning 0 0).kind = .relief { href := 60000, policy := .hold, accepted := 0, written := 0 }
      ∧ (sweepOf 31).received < (relief .scanning 0 0).geom.width ∧ (relief .scanning 0 0).geom.width ≤ (sweepOf 32).received
      ∧ (sweepOf 31).lastGood = some 7 ∧ ({ sweepOf 0 with lastGood := none } : Sweep).lastGood = none :=
  ⟨⟨rfl, rfl⟩, by decide, by decide, by decide, rfl, by decide, by decide, rfl, rfl⟩

theorem witness_SweepCloseIsJudgedByLengthAndCheck :
    let s (w : Sweep) := filling w (withSheet 0 (relief .scanning 0 0) up)
    (∀ w, Listening .t (s w)) ∧ (∀ w, fillingSweep (s w) = some (0, w))
      ∧ sheetAt (s (sweepOf 32)) 0 = some (relief .scanning 0 0)
      ∧ ({ sweepOf 32 with long := true } : Sweep).long = true ∧ (sweepOf 32).long = false
      ∧ (sweepOf 31).received < (relief .scanning 0 0).geom.width
      ∧ (sweepOf 32).received = (relief .scanning 0 0).geom.width ∧ (sweepOf 32).check = 0xABCD
      ∧ (sweepOf 32).check ≠ 0xABCE :=
  ⟨fun _ => ⟨rfl, rfl⟩, fun _ => rfl, by decide, rfl, rfl, by decide, by decide, rfl, by decide⟩

theorem witness_StrayRecordIsDroppedAndCounted :
    Listening .t up ∧ fillingSweep up = none ∧ (∃ tag xs, Instr.samples 9 [(5, false)] = .samples tag xs)
      ∧ (∃ tag k, Instr.sweepClose 9 5 = .sweepClose tag k)
      ∧ AtFront ⟨1, .statusRead⟩ [] (front .statusRead up) ∧ portUp (front .statusRead up) .c = true :=
  ⟨⟨rfl, rfl⟩, by decide, ⟨_, _, rfl⟩, ⟨_, _, rfl⟩, ⟨rfl, rfl⟩, by decide⟩

/-- Words 0 and 7 of a row of eight words, with 63 entries in the queue. -/
theorem witness_SweepJobMakesTheWordsOfItsRow :
    let s (k : Nat) (x : Slot) := queued (List.replicate 63 (entryOf .sweep 0 none))
      (jobs [.sweep 0 0 2 k] (setSlot 0 x (withSheet 0 (relief .scanning 3 2) up)))
    (s 0 (.closed (sweepOf 32))).drain.jobs = .sweep 0 0 2 0 :: []
      ∧ (s 7 (.draining (sweepOf 32))).drain.jobs = .sweep 0 0 2 7 :: []
      ∧ (s 0 (.closed (sweepOf 32))).drain.queue.length < 64
      ∧ sheetAt (s 0 (.closed (sweepOf 32))) 0 = some (relief .scanning 3 2)
      ∧ (relief .scanning 3 2).geom.width % 32 = 0 ∧ 7 < (relief .scanning 3 2).geom.width / 4
      ∧ (sweepOf 32).samples.length = (relief .scanning 3 2).geom.width
      ∧ (s 0 (.closed (sweepOf 32))).ingest.slots[(0 : Fin 2)] = (if 0 = 0 then .closed (sweepOf 32) else .draining (sweepOf 32))
      ∧ (s 7 (.draining (sweepOf 32))).ingest.slots[(0 : Fin 2)]
          = (if 7 = 0 then .closed (sweepOf 32) else .draining (sweepOf 32)) := by decide +kernel

/-- Word 255, the last of a tile; and the last covered word of a block at column 3 of width 2. -/
theorem witness_FillAndLoadJobsMakeTheirWords :
    let s (j : Job) := jobs [j] (withSheet 0 (letter .loading) up)
    let b := (s (.load 0 0 3 0 2 1 1)).setBuffers #v[some [5, 6], none, none, none]
    (s (.fill 0 255)).drain.jobs = .fill 0 255 :: [] ∧ (s (.fill 0 255)).drain.queue.length < 64
      ∧ sheetAt (s (.fill 0 255)) 0 = some (letter .loading) ∧ 255 < extentOf (letter .loading).geom * 256
      ∧ b.drain.jobs = .load 0 0 3 0 2 1 (0 * ((3 + 2 - 1) / 4 - 3 / 4 + 1) + 1) :: []
      ∧ b.buffers[(0 : Fin 4)] = some [5, 6] ∧ [(5 : Code), 6].length = 2 * 1 ∧ 0 < 1 ∧ 1 ≤ (3 + 2 - 1) / 4 - 3 / 4
      ∧ up.drain.jobs = [] ∧ 64 ≤ (queued (List.replicate 64 (entryOf .fill 0 none)) up).drain.queue.length := by decide

theorem witness_SpindleReleaseReplacesTheCondition :
    (∀ m c, AtFront ⟨1, .spindleRelease m c⟩ [] (front (.spindleRelease m c) up)) ∧ 4 ≤ 4 ∧ 3 ≤ 3
      ∧ (0x40 : BitVec 8).getLsbD 6 = true ∧ (0x3F : BitVec 8).getLsbD 6 = false ∧ (0x3F : BitVec 8).getLsbD 7 = false :=
  ⟨fun _ _ => ⟨rfl, rfl⟩, by decide, by decide, by decide, by decide, by decide⟩

theorem witness_SpindleRetractWithdrawsAndResumeMarks :
    let s := asked [recordOf 7 1 false .waiting] (bindTo 0 0 up)
    (∀ m, AtFront ⟨1, .spindleRetract m⟩ [] (front (.spindleRetract m) s))
      ∧ (∀ m, AtFront ⟨1, .spindleResume m⟩ [] (front (.spindleResume m) s)) ∧ (0x80 : BitVec 8).getLsbD 7 = true
      ∧ (0x01 : BitVec 8).getLsbD 6 = false ∧ (0x01 : BitVec 8).getLsbD 7 = false ∧ (0x01 : BitVec 8).getLsbD 0 = true
      ∧ portUp s .c = true ∧ portUp s (.s 0) = true :=
  ⟨fun _ => ⟨rfl, rfl⟩, fun _ => ⟨rfl, rfl⟩, by decide, by decide, by decide, by decide, by decide, by decide⟩

/-- TOUCH_LIMIT is 500 and TOOL_NOMINAL 0: 500 is within, 501 beyond. -/
theorem witness_TouchOffIsAcceptedWithinItsLimit : Listening (.s 0) up
    ∧ (((up.spindles[(0 : Fin 6)]).active.toolNominal : Int) - (500 : Nat)).natAbs
      ≤ (up.spindles[(0 : Fin 6)]).active.touchLimit
    ∧ (up.spindles[(0 : Fin 6)]).active.touchLimit
      < (((up.spindles[(0 : Fin 6)]).active.toolNominal : Int) - (501 : Nat)).natAbs :=
  ⟨up_listening _, by decide, by decide⟩

/-- One state for each check of R82: RETRACTED, UNBOUND, four records, a tag in use, offset 0, no sheet, and a sheet of
each state that does not answer. -/
theorem witness_QueryIsAnsweredAtArrivalByTheFirstCheck :
    let s := asked (List.replicate 4 (recordOf 7 1 false .waiting)) (bindTo 0 0 up)
    let one := asked [recordOf 7 1 false .waiting] (bindTo 0 0 up)
    Listening (.s 0) s ∧ (retractContext up.spindles[(0 : Fin 6)]).state = .retracted
      ∧ (up.spindles[(0 : Fin 6)]).state = .unbound ∧ (s.spindles[(0 : Fin 6)]).state = .bound
      ∧ 4 ≤ (s.queries.records.filter (fun r => r.spindle == 0)).length
      ∧ (one.queries.records.filter (fun r => r.spindle == 0)).length < 4
      ∧ (∃ r ∈ one.queries.records.filter (fun r => r.spindle == 0), r.tag = 7)
      ∧ (∀ r ∈ one.queries.records.filter (fun r => r.spindle == 0), r.tag ≠ 8)
      ∧ ((0 : BitVec 16) - one.time.frame.setWidth 16).toInt ≤ 0
      ∧ ¬ ((1 : BitVec 16) - one.time.frame.setWidth 16).toInt ≤ 0
      ∧ (one.spindles[(0 : Fin 6)]).active.sheet.bind (sheetAt one) = none
      ∧ (∀ st, ((withSheet 0 (letter st) one).spindles[(0 : Fin 6)]).active.sheet.bind (sheetAt (withSheet 0 (letter st) one))
          = some (letter st)) :=
  ⟨⟨rfl, rfl⟩, rfl, rfl, by decide, by decide, by decide, by decide, by decide, by decide, by decide, by decide,
    fun st => by cases st <;> decide⟩

/-- With p = 200 the blank's first micrometre lies inside at 0 and outside at −1; row 0 is readable with one row written,
and not with none. -/
theorem witness_QueryThatPassesIsAccepted :
    let s (k : Nat) := withSheet 0 (relief .scanning k k) (bindTo 0 0 up)
    Listening (.s 0) (s 1) ∧ ((s 1).spindles[(0 : Fin 6)]).state = .bound
      ∧ (s 1).queries.records.countP (fun r => r.spindle == (0 : Fin 6)) < 4
      ∧ (∀ r ∈ (s 1).queries.records, r.spindle = (0 : Fin 6) → r.tag ≠ 7)
      ∧ 0 < ((1 : BitVec 16) - (s 1).time.frame.setWidth 16).toInt
      ∧ ((s 1).spindles[(0 : Fin 6)]).active.sheet = some 0 ∧ sheetAt (s 1) 0 = some (relief .scanning 1 1)
      ∧ (s 1).port.state = .init
      ∧ outsideGrid (gridPosition 0 false 4096 200 0) 32 = false ∧ outsideGrid (gridPosition 0 false 4096 200 (-1)) 32 = true
      ∧ (∀ y ∈ neededOf (cellIndex 0 32) (cellFraction 0 32), y < 1)
      ∧ ¬ ∀ y ∈ neededOf (cellIndex 0 32) (cellFraction 0 32), y < 0 :=
  ⟨⟨rfl, rfl⟩, by decide, by decide, by decide, by decide, by decide, by decide, rfl, by decide, by decide, by decide,
    by decide⟩

/-- Offsets 4 and 5, and the ends of the range. -/
theorem witness_DueFrameIsTheNearFrameClampedToFour : dueOffset 4 0 = 4 ∧ dueOffset 5 0 = 5 ∧ 4 < dueOffset 5 0
    ∧ dueOffset 0x7FFF 0 = 32767 ∧ dueOffset 0x8000 0 = -32768 ∧ dueOffset 0 0 ≤ 0
    ∧ ((0 : FrameNumber) + BitVec.ofInt 32 4).setWidth 16 = (4 : BitVec 16) ∧ up.time.frame = 0 := by decide

/-- The last column of a sheet of 32: g = 256 × 31. -/
theorem witness_MappingFindsACellAndInterpolatesWithinIt : outsideGrid 7936 32 = false ∧ outsideGrid 7937 32 = true
    ∧ outsideGrid 0 32 = false ∧ cellFraction 7936 32 = 256 ∧ (256 : Nat) ≤ 256 ∧ 0 < 10 ∧ 2 ≤ 32 := by decide

theorem witness_CutFollowsFromTheWordsAndItsBounds :
    badWord (recordOf 7 1 false (.done 0 true)) = true ∧ badWord (recordOf 7 1 false (.done 0 false)) = false
      ∧ voidNeeded (smallGeometry 0) (recordOf 7 1 false (.done voidWord false)) = true
      ∧ voidNeeded (smallGeometry 0) (recordOf 7 1 false (.done 0 false)) = false
      ∧ (relief .ready 32 32).kind = .relief { href := 60000, policy := .hold, accepted := 32, written := 32 }
      ∧ (letter .ready).kind = .letter 900 := by decide

/-- One sample needed, at column 0 and row 0: read from its fetch it is VOID. -/
theorem witness_CutFollows_fetched :
    let r := recordOf 7 1 false (.done voidWord false)
    r.fx ≤ 256 ∧ r.fy ≤ 256
      ∧ (∀ x ∈ neededOf r.i r.fx, ∀ y ∈ neededOf r.j r.fy, ∃ c, FetchedSample (smallGeometry 0) r x y c)
      ∧ FetchedSample (smallGeometry 0) r 0 0 65535 := by
  have h : FetchedSample (smallGeometry 0) (recordOf 7 1 false (.done voidWord false)) 0 0 65535 := by
    refine ⟨_, voidWord, false, List.mem_singleton.mpr rfl, by decide, by decide, rfl, by decide, fun f' hf' _ _ => ?_⟩
    exact List.mem_singleton.mp hf'
  refine ⟨by decide, by decide, fun x hx y hy => ?_, h⟩
  have hx' : x = 0 := List.mem_singleton.mp hx
  have hy' : y = 0 := List.mem_singleton.mp hy
  subst hx' hy'
  exact ⟨_, h⟩

/-- At P − 2 the tick is counted, at P − 1 it is the mark. -/
theorem witness_TickCountsAndRaisesWhatFallsOnIt :
    let s (k : Nat) := up.setTime { up.time with ticks := k }
    (∀ k, (s k).resetAsserted = false) ∧ NoneOutstanding (s 9998) ∧ (s 9998).time.ticks + 1 < (s 9998).time.period
      ∧ (s 9999).time.period ≤ (s 9999).time.ticks + 1 := by
  refine ⟨fun _ => rfl, ?_, by decide, by decide⟩
  unfold NoneOutstanding
  decide

/-- A mark that is outstanding, and the timer of the last bank. -/
theorem witness_TickCounts_outstanding :
    let s := up.setTime { up.time with markDue := true }
    let b := setBank 7 { row := some 9, timer := some 0, closeWanted := false, accessed := true } up
    nextOutstanding s = some .frameMark ∧ nextOutstanding b = some (.rowCloseTimerExpiry 7)
      ∧ s.settings.refreshInterval ≠ 0 := by decide

/-- With NOTICE_INTERVAL 100 the count 98 does not complete the interval, and 99 does. -/
theorem witness_FrameMarkBeginsTheNextFrame :
    let s (k : Nat) := asked [recordOf 7 1 false .waiting, recordOf 8 2 false .waiting]
      ((up.setTime { up.time with markDue := true }).setNotices { pending := 0, interval := k })
    (∀ k, (s k).resetAsserted = false) ∧ (∀ k, (s k).time.markDue = true) ∧ up.time.markDue = false
      ∧ portUp (s 0) (.s 0) = true ∧ (∃ r ∈ (s 0).queries.records, r.due = (s 0).time.frame + 1)
      ∧ (s 98).notices.interval + 1 < (s 98).settings.noticeInterval
      ∧ (s 99).settings.noticeInterval ≤ (s 99).notices.interval + 1 ∧ (∀ k, (s k).window = none) ∧ portUp (s 99) .c = true
      ∧ ({ up.settings with alwaysSend := true } : Settings).alwaysSend = true :=
  ⟨fun _ => rfl, fun _ => rfl, rfl, by decide, by decide, by decide, by decide, fun _ => rfl, by decide, rfl⟩

/-- An open chunk at hold count 2 of CHUNK_HOLD 4 stays, at 3 it goes out. -/
theorem witness_FrameMarkBegins_chunk :
    let w (k : Nat) : WindowRead := { windowOf none 0 with chunk := [5], placed := 1, cap := 256, hold := k }
    let s (k : Nat) := reading (w k) (up.setTime { up.time with markDue := true })
    (∀ k, (s k).window = some (w k)) ∧ (w 2).chunk ≠ [] ∧ (w 2).hold + 1 < (s 2).settings.chunkHold
      ∧ (s 3).settings.chunkHold ≤ (w 3).hold + 1 ∧ (windowOf none 0).chunk = [] ∧ portUp (s 3) .c = true :=
  ⟨fun _ => rfl, by decide, by decide, by decide, rfl, by decide⟩

theorem witness_FrameMarkCarriesOutReleases :
    let s := up.setTime { up.time with markDue := true }
    let due : Context := { Context.powerOn with release := .afterAlarm1, alarmFired := true }
    s.resetAsserted = false ∧ s.time.markDue = true
      ∧ ((due.release = .afterAlarm0 ∨ due.release = .afterAlarm1) ∧ due.alarmFired = true) ∧ due.state ≠ .retracted
      ∧ ¬ ({ due with alarmFired := false } : Context).alarmFired = true
      ∧ ({ due with resumePending := true } : Context).resumePending = true
      ∧ (∀ r ∈ s.queries.records, r.spindle = 0 → r.due ≠ s.time.frame + 1) := by decide

theorem witness_UrgencyPointMakesTheNextFramesQueriesUrgent :
    let s := asked [recordOf 7 1 false .waiting] (up.setTime { up.time with urgencyDue := true })
    s.resetAsserted = false ∧ s.time.urgencyDue = true ∧ up.time.urgencyDue = false := by decide

theorem witness_AlarmFiringReachesTheSpindlesThatWait :
    let s := up.setTime { up.time with alarmDue := #v[false, true] }
    s.resetAsserted = false ∧ s.time.alarmDue[(1 : Fin 2)] = true ∧ s.time.alarmDue[(0 : Fin 2)] = false := by decide

theorem witness_TimeSetLoadsMachineTime :
    AtFront ⟨1, .timeSet 5⟩ [] (front (.timeSet 5) up) ∧ NoneOutstanding (front (.timeSet 5) up) := by
  refine ⟨⟨rfl, rfl⟩, ?_⟩
  unfold NoneOutstanding
  decide

/-- Unit 1 of section 3.9 fires at the load and unit 0 does not; spindle 2 waits on unit 1. -/
theorem witness_TimeSetLoads_fires :
    let s := alarms39 (setSpindle 2 { up.spindles[(2 : Fin 6)] with release := .afterAlarm1 } up)
    let matched (a : Fin 2) : Prop := (33554932 ^^^ (s.time.alarms[a]).compare) &&& ~~~(s.time.alarms[a]).mask = 0
    NoneOutstanding (front (.timeSet 33554932) s) ∧ (∀ a : Fin 2, (s.time.alarms[a]).enabled = true) ∧ ¬ matched 0 ∧ matched 1
      ∧ (s.spindles[(2 : Fin 6)]).release = .afterAlarm1
      ∧ after (fun t => (t.spindles.toList.map (fun c => c.alarmFired))) (taken (.timeSet 33554932) (.timeSet 1 33554932) s)
        = some [false, false, true, false, false, false] := by
  refine ⟨?_, by decide, by decide, by decide, rfl, by decide +kernel⟩
  unfold NoneOutstanding
  decide

theorem witness_TimeSetLoads_outstanding :
    let s := up.setTime { up.time with alarmDue := #v[false, true], urgencyDue := true }
    AtFront ⟨1, .timeSet 5⟩ [] (front (.timeSet 5) s) ∧ (front (.timeSet 5) s).settings.refreshInterval ≠ 0
      ∧ nextOutstanding (front (.timeSet 5) s) = some (.alarmFire 1) := ⟨⟨rfl, rfl⟩, by decide, by decide⟩

theorem witness_AlarmSetReplacesTheUnitWithoutFiring :
    (∀ u e, AtFront ⟨1, .alarmSet u 5 0 e⟩ [] (front (.alarmSet u 5 0 e) up)) ∧ 2 ≤ 2 ∧ (1 : Nat) = ((1 : Fin 2) : Nat)
      ∧ 1 ≤ 1 := ⟨fun _ _ => ⟨rfl, rfl⟩, by decide, by decide, by decide⟩

theorem witness_NoticeAckAndCountersClear :
    (∀ b, AtFront ⟨1, .noticeAck b⟩ [] (front (.noticeAck b) up))
      ∧ AtFront ⟨1, .countersClear⟩ [] (front .countersClear up)
      ∧ (∃ k, 10 ≤ k ∧ k < 16 ∧ (0x400 : BitVec 16).getLsbD k = true)
      ∧ (∀ k, 10 ≤ k → k < 16 → (0x3FF : BitVec 16).getLsbD k = false) := by
  refine ⟨fun _ => ⟨rfl, rfl⟩, ⟨rfl, rfl⟩, ⟨10, by decide, by decide, by decide⟩, fun k h₁ h₂ => ?_⟩
  interval_cases k <;> decide

theorem witness_ServiceResetGivesUpWorkAndKeepsSheets :
    let s := withSheet 2 (letter .loading 2) (withSheet 1 (letter .filling 1) (withSheet 0 (relief .scanning 3 2)
      (withSheet 3 (relief .ready 32 32 3) (issued (.write 2 0 0) (some 2) up))))
    AtFront ⟨1, .serviceReset⟩ [] (front .serviceReset s) ∧ sheetAt s 3 = some (relief .ready 32 32 3)
      ∧ sheetAt s 0 = some (relief .scanning 3 2) ∧ sheetAt s 1 = some (letter .filling 1) ∧ inFlightFor s 1 = false
      ∧ sheetAt s 2 = some (letter .loading 2) ∧ inFlightFor s 2 = true
      ∧ s.port.inFlight = some ⟨.write 2 0 0, some 2, false, false⟩ ∧ s.port.owed < 8 ∧ portUp s .c = true :=
  ⟨⟨rfl, rfl⟩, by decide, by decide, by decide, by decide, by decide, by decide, rfl, by decide, by decide⟩

/-- A FILLING sweep, a waiting SHEET_READY, a waiting SHEET_CLOSE, a window read and an OPEN bank. -/
theorem witness_ServiceReset_answers :
    let s := setBank 3 { row := some 9, timer := some 5, closeWanted := false, accessed := true } (filling (sweepOf 3)
      (reading (windowOf none 0) (withSheet 1 { letter .loading 1 with readyWaiting := some 4 }
        (withSheet 2 { letter .retiring 2 with closeWaiting := some 5 } (withSheet 0 (relief .scanning 3 2) up)))))
    AtFront ⟨1, .serviceReset⟩ [] (front .serviceReset s) ∧ fillingSweep s = some (0, sweepOf 3) ∧ portUp s .t = true
      ∧ portUp s .c = true ∧ (s.port.banks[(3 : Fin 8)]).row ≠ none ∧ fillingSweep up = none
      ∧ after (fun t => (linkOf t .c).toSend) (exec (.serviceReset 1) (front .serviceReset s))
        = some [.cellReply 4 5 (.refused .noSheet) .empty, .cellReply 5 6 .done .empty, .cellReply 8 9 .cancelled .empty,
            .cellReply 1 22 .done .empty] :=
  ⟨⟨rfl, rfl⟩, by decide, by decide, by decide, by decide, by decide, by decide +kernel⟩

/-- The 63rd idle symbol leaves the port DOWN, and the 64th brings it UP. -/
theorem witness_IdleSymbolsBringAPortUp :
    let s (k : Nat) := setLink .t { up := false, idle := k, bad := 0, toSend := [] } State.reset
    up.resetAsserted = false ∧ portUp up .t = true ∧ portUp (s 62) .t = false ∧ (linkOf (s 62) .t).idle + 1 < 64
      ∧ 64 ≤ (linkOf (s 63) .t).idle + 1 := by decide

/-- On the DOWN ports of the reset state a record returns the idle count to 0. -/
theorem witness_Idle_records :
    let s (p : Port) := setLink p { up := false, idle := 63, bad := 0, toSend := [] } State.reset
    (∀ p ∈ [Port.c, .t, .s 5], portUp (s p) p = false)
      ∧ after (fun t => (linkOf t .c, t.cellQueue)) (exec (.cellRequestArrives 1 .statusRead) (s .c))
        = some ({ up := false, idle := 0, bad := 0, toSend := [] }, [])
      ∧ after (fun t => linkOf t .t) (exec (.samples 1 [(5, true)]) (s .t))
        = some { up := false, idle := 0, bad := 0, toSend := [] }
      ∧ after (fun t => linkOf t (.s 5)) (exec (.touchOff 5 1 7) (s (.s 5)))
        = some { up := false, idle := 0, bad := 0, toSend := [] } := by decide +kernel

theorem witness_LossOfCarrierTakesThePortDown :
    up.resetAsserted = false ∧ portUp up .c = true ∧ portUp up .t = true ∧ portUp up (.s 5) = true
      ∧ fillingSweep up = none ∧ fillingSweep (filling (sweepOf 3) up) = some (0, sweepOf 3) := by decide

/-- A window READ in flight at Port C, and at port S1 the READ of a record of spindle 0 and of none. -/
theorem witness_LossOfCarrier_reads :
    let s (o : ReadOwner) := asked [recordOf 7 1 true .issued] (issued (.read 0 0 o) (some 0) up)
    let lost (p : Port) (o : ReadOwner) :=
      after (fun t => t.port.inFlight.map (fun o => o.discard)) (exec (.lossOfCarrier p) (s o))
    (∀ o, (s o).port.inFlight = some ⟨.read 0 0 o, some 0, false, false⟩)
      ∧ ReadLost .c (s (.window 0 0)) ⟨.read 0 0 (.window 0 0), some 0, false, false⟩
      ∧ ReadLost (.s 0) (s (.fetch 7 0)) ⟨.read 0 0 (.fetch 7 0), some 0, false, false⟩
      ∧ ¬ ReadLost .c (s .merge) ⟨.read 0 0 .merge, some 0, false, false⟩
      ∧ lost .c (.window 0 0) = some (some true) ∧ lost (.s 0) (.fetch 7 0) = some (some true)
      ∧ lost (.s 1) (.fetch 7 0) = some (some false) ∧ lost .t (.window 0 0) = some (some false) := by
  refine ⟨fun _ => rfl, ⟨_, _, _, _, rfl⟩, ⟨_, _, _, _, rfl, _, List.mem_singleton.mpr rfl, rfl, rfl⟩, ?_, by decide +kernel,
    by decide +kernel, by decide +kernel, by decide +kernel⟩
  rintro ⟨_, _, _, _, h⟩
  cases h

/-- The seventh bad record in a row leaves the port UP, and the eighth takes it DOWN. -/
theorem witness_BadRecordsAreCountedAndTheEighthTakesThePortDown :
    let s (k : Nat) := setLink .t { up := true, idle := 0, bad := k, toSend := [] } up
    up.resetAsserted = false ∧ decodeRecord .t [] = none ∧ portUp (s 6) .t = true ∧ (linkOf (s 6) .t).bad + 1 < 8
      ∧ 8 ≤ (linkOf (s 7) .t).bad + 1 ∧ portUp State.reset .t = false
      ∧ decodeRecord .c [0x06, 0x07, 0x00, 0x01, 0x03, 0x8E, 0xF6] ≠ none := by decide +kernel

/-- The eighth bad record on each kind of port, with what its owners give up. -/
theorem witness_BadRecords_owners :
    let s := asked [recordOf 7 1 false .waiting] (reading (windowOf none 0) (filling (sweepOf 3) up))
    let eighth (p : Port) := setLink p { linkOf s p with bad := 7 } s
    let sent (p : Port) := exec (.badRecord p []) (eighth p)
    portUp (eighth .c) .c = true ∧ portUp (eighth (.s 0)) (.s 0) = true
      ∧ (∀ p ∈ [Port.c, .t, .s 0], decodeRecord p [] = none ∧ 8 ≤ (linkOf (eighth p) p).bad + 1)
      ∧ fillingSweep (eighth .t) = some (0, sweepOf 3)
      ∧ after (fun t => t.window.isSome) (sent .c) = some false
      ∧ after (fun t => ((fillingSweep t).isSome, t.counters[cntSweepsRewound])) (sent .t) = some (false, 1)
      ∧ after (fun t => (t.queries.records.length, (t.spindles[(0 : Fin 6)]).state)) (sent (.s 0)) = some (0, .retracted) := by
  decide +kernel

/-- One state for each step of the choice order. -/
theorem witness_ChoiceIssuesByTheFirstStepThatApplies :
    let s := running up
    let owing (k : Nat) := s.setPort { s.port with owed := k }
    let query (u : Bool) := asked [recordOf 7 1 u .waiting] s
    let window := reading (windowOf (some (0, 0)) 0) (withSheet 0 (relief .ready 32 32) s)
    let drain := queued [entryOf .fill 0 none] s
    let candidate : QueryCandidate := { seq := 7, index := 0, urgent := true, due := 1, sheet := 0, tile := 0, word := 0 }
    up.port.state = .init ∧ (issued .refresh none up).port.inFlight ≠ none ∧ s.port.state = .run ∧ s.port.inFlight = none
      ∧ s.sched.refreshing = false ∧ s.sched.deadline = false ∧ s.port.owed < 4 ∧ offeredWord s = none
      ∧ (s.setSched { s.sched with refreshing := true }).sched.refreshing = true ∧ 8 ≤ (owing 8).port.owed
      ∧ (s.setSched { s.sched with deadline := true }).sched.deadline = true
      ∧ firstUrgent (query true) = some candidate
      ∧ 4 ≤ (owing 4).port.owed ∧ (owing 7).port.owed < 8
      ∧ (offeredWord window).map (fun (_, y, k) => (y, k)) = some (0, 0) ∧ window.sched.windowAge < window.settings.windowStarve
      ∧ (window.setSched { window.sched with windowAge := 8 }).settings.windowStarve
          ≤ (window.setSched { window.sched with windowAge := 8 }).sched.windowAge
      ∧ s.sched.baseMode = .readFirst ∧ (s.setSched { s.sched with baseMode := .writeFirst }).sched.baseMode = .writeFirst
      ∧ firstQuery (query false) = some { candidate with urgent := false } ∧ firstQuery s = none
      ∧ drain.drain.queue = entryOf .fill 0 none :: [] ∧ s.drain.queue = [] ∧ 1 ≤ (owing 1).port.owed ∧ s.port.owed = 0
      ∧ ((setBank 5 { row := some 9, timer := none, closeWanted := true, accessed := false } s).port.banks[(5 : Fin 8)]).row
          ≠ none
      ∧ (∀ a : Fin 8, a < 5 → ¬ ((s.port.banks[a]).closeWanted = true ∧ (s.port.banks[a]).row ≠ none))
      ∧ (∀ b : Fin 8, (s.port.banks[b]).closeWanted = false) := by decide

/-- With row 0 of bank 0 OPEN: a WRITE that hits it, a window READ below and at WINDOW_STARVE, and in DEADLINE a CLOSE that
an urgent fetch of row 8 makes while a fetch that is not urgent waits on row 0. -/
theorem witness_Choice_counts :
    let s (accessed : Bool) := setBank 0 { row := some 0, timer := some 5, closeWanted := false, accessed := accessed }
      (withSheet 0 (relief .ready 32 32) (running up))
    let aged (k : Nat) := (reading (windowOf (some (0, 0)) 0) (s false)).setSched { up.sched with windowAge := k }
    let far := { recordOf 8 1 true .waiting with fetches := [{ tile := 64, word := 0, lanes := 1, state := .waiting }] }
    let deadline := (asked [recordOf 7 2 false .waiting, far] (s true)).setSched { up.sched with deadline := true }
    let op (u : State) := (choose u).port.inFlight.map (fun o => o.op)
    let drained (a : Bool) := queued [entryOf .fill 0 none] (s a)
    op (drained true) = some (.write 0 0 0) ∧ op (drained false) = some (.write 0 0 0)
      ∧ ((drained true).port.banks[bankOf 0]).accessed = true ∧ ((drained false).port.banks[bankOf 0]).accessed = false
      ∧ op (aged 7) = some (.read 0 0 (.window 0 0)) ∧ (aged 7).sched.windowAge < (aged 7).settings.windowStarve
      ∧ op (aged 8) = some (.read 0 0 (.window 0 0)) ∧ (aged 8).settings.windowStarve ≤ (aged 8).sched.windowAge
      ∧ op (queued [{ entryOf .load 0 none with lanes := 7, merge := .needed }] (s true)) = some (.read 0 0 .merge)
      ∧ op deadline = some (.closeRow 0) ∧ (firstUrgent deadline).map (fun c => bankOf c.tile) = some 0
      ∧ ((queryCandidates deadline).any (fun d => !d.urgent && bankOf d.tile == 0
          && (deadline.port.banks[bankOf d.tile]).row == some (d.tile / 8))) = true
      ∧ op (queued [entryOf .fill 0 none] (running up)) = some (.openRow 0 0)
      ∧ op ((running up).setPort { (running up).port with owed := 1 }) = some .refresh := by decide

/-- With row 0 of bank 0 OPEN: a fetch READ; window READs of a row's first word, of its last with the next row below the
frontier, and of a last word with no readable row after it; the first CLOSE of a refresh, its REFRESH, and nothing wanted. -/
theorem witness_Choice_moves :
    let s := setBank 0 { row := some 0, timer := some 5, closeWanted := false, accessed := true }
      (withSheet 0 (relief .scanning 2 2) (running up))
    let w (width y k : Nat) : WindowRead := { windowOf (some (y, k)) 0 with width := width, height := 3 }
    let owing (u : State) := u.setPort { u.port with owed := 8 }
    let issue (u : State) := (choose u).port.inFlight.map (fun o => (o.op, o.sheet))
    let moved (v : WindowRead) := (choose (reading v s)).window.map (fun v => (v.cursor, v.voids))
    issue (asked [recordOf 7 1 false .waiting] s) = some (.read 0 0 (.fetch 7 0), some 0)
      ∧ (choose (asked [recordOf 7 1 false .waiting] s)).queries.records = [recordOf 7 1 false .issued]
      ∧ issue (reading (w 8 0 0) s) = some (.read 0 0 (.window 0 0), some 0) ∧ (0 + 8 - 1) / 4 = 1 ∧ (0 + 4 - 1) / 4 = 0
      ∧ moved (w 8 0 0) = some (some (0, 1), 0) ∧ moved (w 4 0 0) = some (some (1, 0), 0) ∧ moved (w 4 1 0) = some (none, 4)
      ∧ issue (owing s) = some (.closeRow 0, none) ∧ (choose (owing s)).sched.refreshing = true
      ∧ issue ((owing (running up)).setSched { up.sched with refreshing := true }) = some (.refresh, none)
      ∧ issue (running up) = none := by decide +kernel

theorem witness_Choice_rows :
    let s := withSheet 0 (relief .scanning 2 2) (running up)
    RowReadable s 0 1 ∧ ¬ RowReadable s 0 2 := by
  have e : sheetAt (withSheet 0 (relief .scanning 2 2) (running up)) 0 = some (relief .scanning 2 2) := by decide
  refine ⟨⟨_, e, .inr ⟨_, rfl, rfl, by decide⟩⟩, ?_⟩
  rintro ⟨x, hx, h⟩
  rw [e] at hx
  cases hx
  rcases h with h | ⟨r, -, hk, hy⟩
  · cases h
  · cases hk
    exact absurd hy (by decide)

theorem witness_FirstFetchIsTheOldestRowHit :
    let candidate : QueryCandidate := { seq := 7, index := 0, urgent := true, due := 1, sheet := 0, tile := 0, word := 0 }
    let s := asked [recordOf 7 1 true .waiting] (running up)
    firstQuery s = some candidate ∧ firstUrgent s = some candidate ∧ candidate ∈ queryCandidates s
      ∧ isOpenOn (setBank 0 { row := some 0, timer := none, closeWanted := false, accessed := false } s) 0 = true
      ∧ sheetAt (withSheet 0 (relief .ready 32 32) s) (windowOf none 0).sheet = some (relief .ready 32 32)
      ∧ firstQuery up = none ∧ firstUrgent (asked [recordOf 7 1 false .waiting] up) = none := by decide

theorem witness_StartUpAndBankOperationsComplete :
    up.resetAsserted = false ∧ up.port.state = .init ∧ (running up).port.state = .run ∧ up.port.inFlight = none
      ∧ (issued (.openRow 7 16383) none up).port.inFlight = some ⟨.openRow 7 16383, none, false, false⟩
      ∧ (issued (.closeRow 7) none up).port.inFlight = some ⟨.closeRow 7, none, false, false⟩
      ∧ (issued .refresh none up).port.inFlight = some ⟨.refresh, none, false, false⟩
      ∧ NothingWanted (issued (.openRow 7 16383) none up)
      ∧ (∀ b : Fin 8, ((issued (.openRow 7 16383) none up).port.banks[b]).row = none
          ∨ ((issued (.openRow 7 16383) none up).port.banks[b]).timer ≠ none)
      ∧ up.settings.rowCloseTime ≠ 0
      ∧ ((running up).setPort { (running up).port with inFlight := some ⟨.openRow 7 16383, none, true, true⟩ }).port.inFlight
        = some ⟨.openRow 7 16383, none, true, true⟩ := by
  refine ⟨rfl, rfl, rfl, rfl, rfl, rfl, rfl, ?_, by decide, by decide, rfl⟩
  unfold NothingWanted
  decide

/-- With ROW_CLOSE_TIME 0 an OPEN leaves its bank with no timer: a candidate names row 9 of bank 3, and with none it is
marked. -/
theorem witness_StartUp_noRowTimer :
    let s := (issued (.openRow 3 9) none up).setSettings { up.settings with rowCloseTime := 0 }
    let named := queued [{ entryOf .fill 0 none with tile := 75 }] s
    let bank := restartedBank s false { row := some 9, timer := none, closeWanted := false, accessed := false }
    bank.row ≠ none ∧ bank.timer = none ∧ (¬ ∃ tile ∈ candidateTiles s, bankOf tile = 3 ∧ bank.row = some (tile / 8))
      ∧ (∃ tile ∈ candidateTiles named, bankOf tile = 3 ∧ bank.row = some (tile / 8))
      ∧ (s.settings.rowCloseTime = 0 ∧ named.port.inFlight = some ⟨.openRow 3 9, none, false, false⟩)
      ∧ after (fun t => t.port.inFlight.map (fun o => o.op)) (exec .openComplete s) = some (some (.closeRow 3)) := by
  decide +kernel

/-- A bank left with no timer by ROW_CLOSE_TIME 0, once the setting is 50: at the next completion its timer starts where a
candidate names its row. And an OPEN's completion while a READ is in flight. -/
theorem witness_StartUp_judgedAgain :
    let bank : Bank := { row := some 9, timer := none, closeWanted := false, accessed := true }
    let s := setBank 3 bank (queued [{ entryOf .fill 0 none with tile := 75 }] (issued (.closeRow 7) none up))
    let far := queued [entryOf .fill 0 none] s
    let judged := after (fun t => ((t.port.banks[(3 : Fin 8)]).timer, (t.port.banks[(3 : Fin 8)]).closeWanted))
    (∃ tile ∈ candidateTiles s, bankOf tile = 3 ∧ bank.row = some (tile / 8)) ∧ s.settings.rowCloseTime = 50
      ∧ (¬ ∃ tile ∈ candidateTiles far, bankOf tile = 3 ∧ bank.row = some (tile / 8))
      ∧ judged (exec .closeComplete far) = some (none, true)
      ∧ ((judgeBanks (setInFlight none s)).port.banks[(3 : Fin 8)]).timer = some 50
      ∧ stopOf (exec .openComplete (issued (.read 0 0 .merge) (some 0) up)) = some .operationNotInFlight := by
  decide +kernel

/-- Tile 131,071 is the last, and a word written there is examined. -/
theorem witness_ReadCompletionExaminesTheWord :
    let s := (issued (.read 131071 255 .merge) (some 0) up).setMem (storeWord (wordAddress 131071 255) 5 up.mem)
    s.resetAsserted = false ∧ s.port.inFlight = some ⟨.read 131071 255 .merge, some 0, false, false⟩ ∧ 131071 < 131072
      ∧ 131072 ≤ 131072 ∧ Memory.wf s.mem = true ∧ wordWritten s.mem (wordAddress 131071 255) = true
      ∧ wrongCount (lookupWrong s.mem.wrong (wordAddress 131071 255) ^^^ 0) = 0
      ∧ wrongCount (lookupWrong s.mem.wrong (wordAddress 131071 255) ^^^ 1) = 1
      ∧ wrongCount (lookupWrong s.mem.wrong (wordAddress 131071 255) ^^^ 3) = 2 := by decide +kernel

theorem witness_ReadCompletionHandsTheWordToItsOwner :
    let s (o : ReadOwner) := issued (.read 0 0 o) (some 0) (withSheet 0 (relief .ready 32 32) up)
    let merge := queued [{ entryOf .load 0 none with lanes := 7, merge := .needed }] (s .merge)
    let fetch := asked [recordOf 7 1 false .issued] (s (.fetch 7 0))
    let many : WindowRead := { windowOf none 0 with width := 32, chunk := [5], placed := 1, cap := 256 }
    (∀ o, (s o).resetAsserted = false) ∧ (∀ o, (s o).port.inFlight = some ⟨.read 0 0 o, some 0, false, false⟩) ∧ 0 < 131072
      ∧ merge.drain.queue = { entryOf .load 0 none with lanes := 7, merge := .needed } :: []
      ∧ fetch.queries.records.find? (fun x => x.seq == 7) = some (recordOf 7 1 false .issued)
      ∧ sheetAt fetch 0 = some (relief .ready 32 32) ∧ portUp fetch (.s 0) = true ∧ 0 < (recordOf 7 1 false .issued).fetches.length
      ∧ many.voids = 0 ∧ many.chunk ≠ [] ∧ many.chunk.length + 4 < many.cap ∧ many.placed + 4 < many.width * many.height :=
  ⟨fun _ => rfl, fun _ => rfl, by decide, by decide, by decide, by decide, by decide, by decide, by decide, by decide,
    by decide, by decide⟩

/-- An open chunk one sample below its cap of 64, with the window not complete; a window of four samples, complete with one
word; and a RETIRING sheet with its close waiting. -/
theorem witness_ReadCompletionHands_chunks :
    let s := issued (.read 0 0 (.window 0 0)) (some 0) (withSheet 0 (relief .ready 32 32) up)
    let near : WindowRead := { windowOf none 0 with width := 32, height := 3, chunk := List.replicate 63 5, placed := 63, cap := 64 }
    let last := windowOf none 0
    let x : Sheet := { relief .retiring 32 32 with closeWaiting := some 5 }
    let gone (d : Bool) := (withSheet 0 x up).setPort
      { (running up).port with inFlight := some ⟨.read 0 0 (.window 0 0), some 0, d, false⟩ }
    (reading near s).window = some near ∧ near.voids = 0 ∧ near.chunk ≠ [] ∧ near.chunk.length < near.cap
      ∧ near.cap ≤ near.chunk.length + 4 ∧ 4 ≤ s.settings.chunkCap ∧ near.placed + 4 < near.width * near.height
      ∧ (∀ n y, some 0 = some n → sheetAt s n = some y → y.state ≠ .retiring) ∧ portUp s .c = true
      ∧ (reading last s).window = some last ∧ last.placed + 4 = last.width * last.height ∧ last.chunk.length + 4 ≤ 256
      ∧ (∀ d, (gone d).resetAsserted = false)
      ∧ (∀ d, (gone d).port.inFlight = some ⟨.read 0 0 (.window 0 0), some 0, d, false⟩)
      ∧ (∀ d, sheetAt (gone d) 0 = some x) ∧ x.state = .retiring ∧ x.closeWaiting = some 5 := by
  refine ⟨rfl, rfl, by decide, by decide, by decide, by decide, by decide, ?_, by decide, rfl, by decide, by decide,
    fun _ => rfl, fun _ => rfl, fun d => by cases d <;> decide, rfl, rfl⟩
  rintro n y ⟨⟩ h
  have e : sheetAt (issued (.read 0 0 (.window 0 0)) (some 0) (withSheet 0 (relief .ready 32 32) up)) 0
      = some (relief .ready 32 32) := by decide
  rw [e] at h
  cases h
  decide

/-- Four samples at row 0 with VOID rows after them, and no chunk waiting; a last word that fills one chunk and begins another;
the last fetch of a record; and a discarded READ of a READY sheet, after a service reset. -/
theorem witness_ReadCompletionHands_rest :
    let s (o : ReadOwner) (d a : Bool) := ((withSheet 0 (relief .ready 32 32) up).setMem (storeWord (wordAddress 0 0) 5 up.mem)).setPort
      { (running up).port with inFlight := some ⟨.read 0 0 o, some 0, d, a⟩ }
    let voids : WindowRead := { windowOf none 0 with height := 4, voids := 8 }
    let two : WindowRead :=
      { windowOf none 0 with height := 17, chunk := List.replicate 63 5, placed := 64, cap := 64, nextIndex := 1 }
    let fetch := asked [recordOf 7 1 false .issued] (s (.fetch 7 0) false false)
    (∀ o d a, (s o d a).resetAsserted = false ∧ (s o d a).port.inFlight = some ⟨.read 0 0 o, some 0, d, a⟩)
      ∧ (∀ o d a, sheetAt (s o d a) 0 = some (relief .ready 32 32)) ∧ (relief .ready 32 32).state ≠ .retiring
      ∧ (reading voids (s (.window 0 0) false false)).window = some voids ∧ voids.waiting = 0 ∧ 0 + 4 < voids.width * voids.height
      ∧ 0 + 4 + voids.voids ≤ voids.width * voids.height ∧ two.placed + 4 = two.width * two.height ∧ two.chunk.length < two.cap
      ∧ two.cap < two.chunk.length + 4
      ∧ (∀ f ∈ (recordOf 7 1 false (.done 5 false)).fetches, ∃ w b, f.state = .done w b)
      ∧ fetch.queries.records.find? (fun x => x.seq == 7) = some (recordOf 7 1 false .issued)
      ∧ after (fun t => t.window.map (fun v => (v.voids, v.chunk.length)))
          (exec (.readComplete 0) (reading voids (s (.window 0 0) false false))) = some (some (0, 12))
      ∧ after (fun t => t.port.inFlight.map (fun o => o.op))
          (exec (.readComplete 0) (setBank 0 { row := some 0, timer := none, closeWanted := false, accessed := true }
            (s .merge true true))) = some (some (.closeRow 0)) := by
  refine ⟨fun _ _ _ => ⟨rfl, rfl⟩, fun _ _ _ => ?_, by decide, rfl, by decide, by decide, by decide, by decide, by decide,
    by decide, ?_, by decide, by decide +kernel, by decide +kernel⟩
  · show sheetAt (withSheet 0 (relief .ready 32 32) up) 0 = _
    decide
  · intro f hf
    cases List.mem_singleton.mp hf
    exact ⟨_, _, rfl⟩

/-- Row 30 and row 31, the last of the sheet; the last word of the extent's last tile; a waiting SHEET_READY. -/
theorem witness_WriteCompletionStoresTheWordAndRetiresItsEntry :
    let s (x : Sheet) (e : Entry) := queued [e] (issued (.write 0 255 0) (some 0) (withSheet 0 x up))
    let waiting : Sheet := { letter .loading with readyWaiting := some 4 }
    (∀ x e, (s x e).resetAsserted = false ∧ (s x e).port.inFlight = some ⟨.write 0 255 0, some 0, false, false⟩)
      ∧ (issued (.write 131072 0 0) none up).port.inFlight = some ⟨.write 131072 0 0, none, false, false⟩ ∧ 131072 ≤ 131072
      ∧ (∀ x e, Memory.wf (s x e).mem = true) ∧ (∀ x e, (s x e).drain.queue = e :: [])
      ∧ sheetAt (s (relief .scanning 32 30) (entryOf .sweep 255 (some 30))) 0 = some (relief .scanning 32 30)
      ∧ (relief .scanning 32 30).state ≠ .retiring ∧ 30 + 1 < (relief .scanning 32 30).geom.height
      ∧ 31 + 1 = (relief .scanning 32 31).geom.height ∧ (relief .scanning 32 31).readyWaiting = none
      ∧ (entryOf .sweep 255 (some 31)).endOfRow = some 31 ∧ (entryOf .sweep 255 (some 31)).kind = .sweep
      ∧ (letter .filling).kind = .letter 900 ∧ (entryOf .fill 255 none).kind = .fill ∧ (entryOf .fill 255 none).endOfRow = none
      ∧ (0 + 1 = (letter .filling).geom.base + extentOf (letter .filling).geom)
      ∧ sheetAt (s waiting (entryOf .load 255 none)) 0 = some waiting ∧ waiting.state = .loading
      ∧ waiting.readyWaiting = some 4 ∧ (∀ j ∈ (s waiting (entryOf .load 255 none)).drain.jobs, j.sheetOf ≠ 0)
      ∧ (∀ e' ∈ ([] : List Entry), e'.sheet ≠ 0) :=
  ⟨fun _ _ => ⟨rfl, rfl⟩, rfl, by decide, fun _ _ => rfl, fun _ _ => rfl, by decide, by decide, by decide, by decide, rfl,
    rfl, rfl, rfl, rfl, rfl, by decide, by decide, rfl, rfl, by decide, by decide⟩

/-- The last fill WRITE of a FILLING sheet with a SHEET_READY waiting, with no other work of the sheet and with a load job; a
discarded WRITE of a RETIRING sheet. -/
theorem witness_WriteCompletion_waits :
    let waiting : Sheet := { letter .filling with readyWaiting := some 4 }
    let s (js : List Job) := jobs js (queued [entryOf .fill 255 none] (issued (.write 0 255 0) (some 0) (withSheet 0 waiting up)))
    let x : Sheet := { relief .retiring 32 31 with closeWaiting := some 5 }
    let r := (withSheet 0 x up).setPort { (running up).port with inFlight := some ⟨.write 0 255 0, some 0, true, false⟩ }
    (∀ js, sheetAt (s js) 0 = some waiting) ∧ waiting.kind = .letter 900 ∧ waiting.state = .filling
      ∧ waiting.readyWaiting = some 4 ∧ 0 + 1 = waiting.geom.base + extentOf waiting.geom
      ∧ (∀ j ∈ (s []).drain.jobs, j.sheetOf ≠ 0) ∧ ¬ (∀ j ∈ (s [.load 2 0 0 0 1 1 0]).drain.jobs, j.sheetOf ≠ 0)
      ∧ (∀ e' ∈ ([] : List Entry), e'.sheet ≠ 0) ∧ portUp (s []) .c = true
      ∧ r.resetAsserted = false ∧ r.port.inFlight = some ⟨.write 0 255 0, some 0, true, false⟩ ∧ sheetAt r 0 = some x
      ∧ x.state = .retiring ∧ x.closeWaiting = some 5
      ∧ (∀ n y, some 15 = some n → sheetAt r n = some y → y.state ≠ .retiring) := by
  refine ⟨fun _ => (by decide : sheetAt (withSheet 0 { letter .filling with readyWaiting := some 4 } up) 0 = _), rfl, rfl, rfl,
    by decide, by decide, by decide, by decide, by decide, rfl, rfl, by decide, rfl, rfl, ?_⟩
  rintro n y ⟨⟩ h
  have e : sheetAt ((withSheet 0 { relief .retiring 32 31 with closeWaiting := some 5 } up).setPort
      { (running up).port with inFlight := some ⟨.write 0 255 0, some 0, true, false⟩ }) 15 = none := by decide
  rw [e] at h
  cases h

theorem witness_RefreshIntervalAndRowTimersExpire :
    let s (k : Nat) := up.setPort { up.port with owed := k, refreshLeft := some 0 }
    let b := setBank 3 { row := some 9, timer := some 0, closeWanted := false, accessed := true } up
    let wanted := queued [{ entryOf .fill 0 none with tile := 75 }] b
    (s 7).resetAsserted = false ∧ (s 7).port.refreshLeft = some 0 ∧ (s 7).port.owed < 8 ∧ 8 ≤ (s 8).port.owed
      ∧ up.port.refreshLeft ≠ some 0 ∧ (b.port.banks[(3 : Fin 8)]).timer = some 0 ∧ (b.port.banks[(3 : Fin 8)]).row = some 9
      ∧ (∃ tile ∈ candidateTiles wanted, bankOf tile = 3 ∧ tile / 8 = 9) ∧ b.settings.rowCloseTime ≠ 0
      ∧ (¬ ∃ tile ∈ candidateTiles b, bankOf tile = 3 ∧ tile / 8 = 9) ∧ b.port.state = .init
      ∧ (up.port.banks[(3 : Fin 8)]).timer ≠ some 0 := by decide

/-- After a service reset a WRITE's bank is marked; with ROW_CLOSE_TIME 0 a row close timer that a candidate holds off stops. -/
theorem witness_WriteAndTimer_settle :
    let w := setBank 0 { row := some 0, timer := none, closeWanted := false, accessed := true }
      (up.setPort { (running up).port with inFlight := some ⟨.write 0 0 5, none, true, true⟩ })
    let b := (queued [{ entryOf .fill 0 none with tile := 75 }]
      (setBank 3 { row := some 9, timer := some 0, closeWanted := false, accessed := true } up)).setSettings
        { up.settings with rowCloseTime := 0 }
    w.port.inFlight = some ⟨.write 0 0 5, none, true, true⟩ ∧ Memory.wf w.mem = true
      ∧ after (fun t => t.port.inFlight.map (fun o => o.op)) (exec .writeComplete w) = some (some (.closeRow 0))
      ∧ (∃ tile ∈ candidateTiles b, bankOf tile = 3 ∧ tile / 8 = 9) ∧ b.settings.rowCloseTime = 0
      ∧ after (fun t => ((t.port.banks[(3 : Fin 8)]).timer, (t.port.banks[(3 : Fin 8)]).closeWanted))
          (exec (.rowCloseTimerExpiry 3) b) = some (none, false) := by decide +kernel

/-- An overrun with MEMORY_FAULT not pending and enabled sends a NOTICE at once; with it pending none. -/
theorem witness_RefreshOverrun_notice :
    let s (pending : SourceSet) := ((up.setPort { up.port with owed := 8, refreshLeft := some 0 }).setSettings
      { up.settings with noticeEnables := srcMemoryFault }).setNotices { pending := pending, interval := 0 }
    let sent := after (fun t => (linkOf t .c).toSend)
    portUp (s 0) .c = true ∧ (s 0).notices.pending &&& srcMemoryFault = 0
      ∧ (s 0).settings.noticeEnables &&& srcMemoryFault ≠ 0 ∧ (s srcMemoryFault).notices.pending &&& srcMemoryFault ≠ 0
      ∧ sent (exec .refreshIntervalExpiry (s 0)) = some [.notice srcMemoryFault 0 (modeOf up)]
      ∧ sent (exec .refreshIntervalExpiry (s srcMemoryFault)) = some [] := by decide +kernel

theorem witness_EveryStepKeepsTheMemoryForm :
    let s := (issued (.write 0 0 5) none up).setPending [.writeComplete]
    s.mem.wf = true ∧ ∃ t, step s = .next t := ⟨rfl, _, rfl⟩

theorem sheetAt_withSheet (s : State) (n m : Nat) (x : Sheet) (hn : n < 16) :
    sheetAt (withSheet n x s) m = if n = m then some x else sheetAt s m := by
  by_cases h : n = m
  · subst h; simp [sheetAt, withSheet, setSheet, hn]
  · simp [sheetAt, withSheet, setSheet, h]

theorem sheetAt_up (m : Nat) : sheetAt up m = none := by
  show ((Vector.replicate 16 none)[m]?).join = none
  rw [Vector.getElem?_replicate]
  split <;> rfl

/-- Two sheets of one tile side by side, and a SHEET_CLOSE of one of them. -/
theorem witness_EveryStepKeepsExtentsApart :
    let s := (front (.sheetClose 3) (withSheet 3 (letter .ready 1) (withSheet 0 (relief .ready 32 32) up))).setPending
      [.sheetClose 1 3]
    ExtentsApart s ∧ ∃ t, step s = .next t := by
  refine ⟨?_, _, rfl⟩
  intro m n x y hmn hx hy
  have e (k : Nat) : sheetAt ((front (.sheetClose 3) (withSheet 3 (letter .ready 1) (withSheet 0 (relief .ready 32 32)
      up))).setPending [.sheetClose 1 3]) k
      = if 3 = k then some (letter .ready 1) else if 0 = k then some (relief .ready 32 32) else none := by
    show sheetAt (withSheet 3 (letter .ready 1) (withSheet 0 (relief .ready 32 32) up)) k = _
    rw [sheetAt_withSheet _ _ _ _ (by decide), sheetAt_withSheet _ _ _ _ (by decide), sheetAt_up]
  rw [e] at hx hy
  rintro ⟨tile, ⟨h₁, h₂⟩, h₃, h₄⟩
  have e₁ : (letter .ready 1).geom.base + extentOf (letter .ready 1).geom = 2 := by decide
  have e₂ : (relief .ready 32 32).geom.base + extentOf (relief .ready 32 32).geom = 1 := by decide
  have e₃ : (letter .ready 1).geom.base = 1 := rfl
  split at hx <;> split at hy
  · omega
  · split at hy
    · cases hx; cases hy; omega
    · cases hy
  · split at hx
    · cases hx; cases hy; omega
    · cases hx
  · split at hx <;> split at hy
    · omega
    · cases hy
    · cases hx
    · cases hx

/-- The bounds at their ends: four records of a spindle, refresh owed 8, the last tick of a frame. -/
theorem witness_EveryStepKeepsTheDeviceBounds :
    let s := ((asked (List.replicate 4 (recordOf 7 1 false .waiting)) up).setTime { up.time with ticks := 9999 }).setPort
      { up.port with owed := 8 }
    DeviceBounds (s.setPending [.tick]) ∧ ∃ t, step (s.setPending [.tick]) = .next t := by
  refine ⟨⟨?_, by unfold QueueBounded; decide, by unfold RequestsBounded; decide, by unfold OwedBounded; decide,
    by unfold OneFilling; decide, ?_, by unfold TimeLawful; decide⟩, _, rfl⟩
  · unfold QueriesBounded; decide
  · intro p
    cases p with
    | c => decide
    | t => decide
    | s n => revert n; decide

/-- Row 4 is with the drain and row 5 is FILLING: two rows between the counts, and the feeder's step. -/
theorem witness_EveryStepKeepsTheRowsAndJobs :
    let s := (jobs [.sweep 1 0 4 0] (setSlot 1 (.closed { sweepOf 32 with row := 4 }) (filling { sweepOf 3 with row := 5 }
      (withSheet 0 (relief .scanning 5 4) up)))).setPending [.feederMakeEntry]
    RowsAndJobsLawful s ∧ ∃ t, step s = .next t := by
  have e (k : Nat) : sheetAt ((jobs [.sweep 1 0 4 0] (setSlot 1 (.closed { sweepOf 32 with row := 4 })
      (filling { sweepOf 3 with row := 5 } (withSheet 0 (relief .scanning 5 4) up)))).setPending [.feederMakeEntry]) k
      = if 0 = k then some (relief .scanning 5 4) else none := by
    show sheetAt (withSheet 0 (relief .scanning 5 4) up) k = _
    rw [sheetAt_withSheet _ _ _ _ (by decide), sheetAt_up]
  refine ⟨⟨?_, ?_, by unfold OneFilling; decide, ⟨by decide, by decide, by decide, by decide, by decide, ?_⟩, ?_, ?_⟩, _, rfl⟩
  · intro n x r hx hr
    rw [e] at hx
    split at hx
    · rename_i h0
      subst h0
      cases hx
      cases hr
      exact ⟨by decide, by decide, by decide, by decide, by decide, by decide, fun _ => by decide⟩
    · cases hx
  · intro i w hw
    obtain rfl | rfl : i = 0 ∨ i = 1 := by omega
    · cases hw
      exact ⟨_, _, e 0, rfl, rfl, rfl, by decide, by decide⟩
    · cases hw
  · intro j hj
    cases List.mem_singleton.mp hj
    exact ⟨_, .inl rfl⟩
  · intro j hj
    cases List.mem_singleton.mp hj
    exact ⟨_, e 0, by decide⟩
  · intro x hx
    cases hx

/-- An urgent record with a WAITING fetch and the flag set, and one with its fetch ISSUED and the flag clear. -/
theorem witness_EveryStepKeepsTheDeadlineFlag :
    let s (st : FetchState) (d : Bool) := ((asked [recordOf 7 1 true st] up).setSched { up.sched with deadline := d }).setPending
      [.tick]
    DeadlineLawful (s .waiting true) ∧ DeadlineLawful (s .issued false) ∧ ∀ st d, ∃ t, step (s st d) = .next t := by
  refine ⟨?_, ?_, fun _ _ => ⟨_, rfl⟩⟩ <;> unfold DeadlineLawful <;> decide

theorem witness_RowsFramesAndMemoryChangeByTheirEventsAlone :
    let s := issued (.write 0 255 0) (some 0) (queued [entryOf .sweep 255 (some 30)] (withSheet 0 (relief .scanning 31 30) up))
    (∃ t, exec .writeComplete s = .next t) ∧ sheetAt s 0 = some (relief .scanning 31 30)
      ∧ after (fun t => sheetAt t 0) (exec .writeComplete s) = some (some (relief .scanning 31 31)) :=
  ⟨⟨_, rfl⟩, by decide, by decide +kernel⟩

theorem witness_RecordsDecodeToTheCommandTheyCarry : (Instr.sweepOpen 9 3 0 299).wellFormed = true
    ∧ encodeRecord (.sweepOpen 9 3 0 299)
      = some (.t, [0x60, 0x09, 0x00, 0x04, 0x03, 0x00, 0x01, 0x2B, 0x23, 0xA8]) := by decide +kernel

end Sys2Proof.Tests
end

section
/-! SUPPORT. SHEET_OPEN's checks (R10), each read as the condition that the claims name, and the refusal by the first
that fails. -/

namespace Sys2Proof.Machine

open Sys2Proof

/-! ### Sheets in use and their extents (R11) -/

theorem mem_sheets_iff {s : State} {x : Sheet} : some x ∈ s.sheets.toList ↔ ∃ m, sheetAt s m = some x := by
  simp only [Vector.mem_toList_iff, Vector.mem_iff_getElem?, sheetAt, Option.join_eq_some_iff]

theorem extentsOverlap_iff {a b : Geometry} :
    extentsOverlap a b = true ↔ a.base < b.base + extentOf b ∧ b.base < a.base + extentOf a := by
  simp [extentsOverlap]

theorem overlapsAny_iff {s : State} {g : Geometry} :
    overlapsAny s g = true ↔ ExtentTaken s g.base (extentOf g) := by
  unfold overlapsAny ExtentTaken
  rw [List.any_eq_true]
  constructor
  · rintro ⟨_ | x, hmem, hx⟩
    · cases hx
    · obtain ⟨m, hm⟩ := mem_sheets_iff.1 hmem
      exact ⟨m, x, hm, extentsOverlap_iff.1 hx⟩
  · rintro ⟨m, x, hm, hx⟩
    exact ⟨some x, mem_sheets_iff.2 ⟨m, hm⟩, extentsOverlap_iff.2 hx⟩

/-! ### The fields and the kind they set (check 3 of R10) -/

theorem sideOk_iff {n : Nat} : sideOk n = true ↔ n % 32 = 0 ∧ 32 ≤ n ∧ n ≤ 16384 := by
  simp [sideOk, and_assoc]

theorem policyOf_isSome_iff {n : Nat} : (policyOf n).isSome = true ↔ n = 0 ∨ n = 1 := by
  match n with
  | 0 => simp [policyOf]
  | 1 => simp [policyOf]
  | n + 2 => simp [policyOf]

/-- The fields of an open are those that check 3 admits. -/
abbrev OpenFields.Lawful (f : OpenFields) : Prop :=
  OpenFieldsLawful f.kind f.width f.height f.pitch f.quantum f.href f.policy f.floor

/-- Check 3 finds a kind exactly where it admits the fields: what both kinds share, then what the kind's own code asks. -/
theorem openKind_isSome_iff {f : OpenFields} : (openKind f).isSome = true ↔ f.Lawful := by
  obtain ⟨n, kind, w, h, p, q, b, href, policy, floor⟩ := f
  unfold openKind OpenFields.Lawful OpenFieldsLawful
  simp only [Bool.and_eq_true, sideOk_iff, decide_eq_true_eq, List.contains_iff_mem, List.mem_cons,
    List.not_mem_nil, or_false]
  match kind with
  | 0 =>
    rw [← policyOf_isSome_iff]
    cases policyOf policy with
    | none => simp
    | some _ => simp [apply_ite Option.isSome, and_assoc]
  | 1 => simp [apply_ite Option.isSome, and_assoc]
  | k + 2 => simp

theorem exists_openKind {f : OpenFields} (hl : f.Lawful) : ∃ k, openKind f = some k :=
  Option.isSome_iff_exists.1 (openKind_isSome_iff.2 hl)

/-- The kind that check 3 finds is LETTER for code 1 alone (R164). -/
theorem openKind_isLetter {f : OpenFields} {k : SheetKind} (hk : openKind f = some k) :
    k.isLetter = true ↔ f.kind = 1 := by
  obtain ⟨n, kind, w, h, p, q, b, href, policy, floor⟩ := f
  simp only [openKind, Option.ite_none_right_eq_some] at hk
  obtain ⟨_, hk⟩ := hk
  match kind with
  | 0 =>
    cases hp : policyOf policy with
    | none => simp [hp] at hk
    | some _ =>
      simp only [hp, Option.ite_none_right_eq_some, Option.some.injEq] at hk
      obtain ⟨_, rfl⟩ := hk
      simp [SheetKind.isLetter]
  | 1 =>
    simp only [Option.ite_none_right_eq_some, Option.some.injEq] at hk
    obtain ⟨_, rfl⟩ := hk
    simp [SheetKind.isLetter]
  | _ + 2 => cases hk

/-! ### Fill jobs (check 6 of R10) -/

theorem any_isFill_iff {jobs : List Job} : jobs.any Job.isFill = true ↔ ∃ m next, Job.fill m next ∈ jobs := by
  rw [List.any_eq_true]
  constructor
  · rintro ⟨j, hmem, hj⟩
    cases j with
    | fill m next => exact ⟨m, next, hmem⟩
    | sweep => cases hj
    | load => cases hj
  · rintro ⟨m, next, hmem⟩
    exact ⟨_, hmem, rfl⟩

/-! ### The six checks in order (R10)

Each lemma has as hypotheses that the checks before its own pass. -/

section Checks

variable {s : State} {f : OpenFields}

theorem checkOpen_sheet_outside (hn : 15 < f.sheet) : checkOpen s f = .error .badValue := by
  simp [checkOpen, hn]

theorem checkOpen_sheet_in_use (hn : f.sheet ≤ 15) (hs : sheetAt s f.sheet ≠ none) :
    checkOpen s f = .error .wrongState := by
  simp [checkOpen, Nat.not_lt.2 hn, Option.isSome_iff_ne_none.2 hs]

theorem checkOpen_unlawful (hn : f.sheet ≤ 15) (hs : sheetAt s f.sheet = none) (hl : ¬ f.Lawful) :
    checkOpen s f = .error .badValue := by
  have hk : openKind f = none := Option.not_isSome_iff_eq_none.1 (mt openKind_isSome_iff.1 hl)
  simp [checkOpen, Nat.not_lt.2 hn, hs, hk]

theorem checkOpen_no_room (hn : f.sheet ≤ 15) (hs : sheetAt s f.sheet = none) (hl : f.Lawful)
    (hroom : 131072 < (openGeometry f).base + extentOf (openGeometry f)) : checkOpen s f = .error .noRoom := by
  obtain ⟨k, hk⟩ := exists_openKind hl
  simp [checkOpen, Nat.not_lt.2 hn, hs, hk, hroom]

theorem checkOpen_taken (hn : f.sheet ≤ 15) (hs : sheetAt s f.sheet = none) (hl : f.Lawful)
    (hroom : (openGeometry f).base + extentOf (openGeometry f) ≤ 131072)
    (htaken : ExtentTaken s (openGeometry f).base (extentOf (openGeometry f))) : checkOpen s f = .error .overlap := by
  obtain ⟨k, hk⟩ := exists_openKind hl
  simp [checkOpen, Nat.not_lt.2 hn, hs, hk, Nat.not_lt.2 hroom, overlapsAny_iff.2 htaken]

theorem checkOpen_fill_under_way (hn : f.sheet ≤ 15) (hs : sheetAt s f.sheet = none) (hl : f.Lawful)
    (hroom : (openGeometry f).base + extentOf (openGeometry f) ≤ 131072)
    (hfree : ¬ ExtentTaken s (openGeometry f).base (extentOf (openGeometry f))) (hletter : f.kind = 1)
    (hfill : ∃ m next, Job.fill m next ∈ s.drain.jobs) : checkOpen s f = .error .busy := by
  obtain ⟨k, hk⟩ := exists_openKind hl
  simp [checkOpen, Nat.not_lt.2 hn, hs, hk, Nat.not_lt.2 hroom, mt overlapsAny_iff.1 hfree,
    (openKind_isLetter hk).2 hletter, any_isFill_iff.2 hfill]

end Checks

/-- A check that fails refuses the open with its reason; no check reads the queue that the request has left. -/
theorem refused_takeSheetOpen {s : State} {f : OpenFields} {q : Request} {rest : List Request} {r : Reason}
    (h : checkOpen s f = .error r) : Refused q r rest s (takeSheetOpen q f (s.setCellQueue rest)) := by
  have h' : checkOpen (s.setCellQueue rest) f = .error r := h
  unfold takeSheetOpen
  rw [h']
  exact refused_answerRequest r

/-- Settles O12: the request leaves the queue, `checkOpen` fails with the reason of the clause's check, and that reason
refuses the open. -/
theorem sheetOpenIsRefusedByTheFirstCheckThatFails : Obligations.SheetOpenIsRefusedByTheFirstCheckThatFails := by
  intro s tag n k w h p q b hr po f rest hfront
  refine ⟨_, takeRequest_front hfront, ?badSheet, ?inUse, ?badFields, ?noRoom, ?overlap, ?busy⟩
  case badSheet => exact fun hn => refused_takeSheetOpen (checkOpen_sheet_outside hn)
  case inUse => exact fun hn hs => refused_takeSheetOpen (checkOpen_sheet_in_use hn hs)
  case badFields => exact fun hn hs hl => refused_takeSheetOpen (checkOpen_unlawful hn hs hl)
  case noRoom => exact fun hn hs hl hroom => refused_takeSheetOpen (checkOpen_no_room hn hs hl hroom)
  case overlap =>
    exact fun hn hs hl hroom htaken => refused_takeSheetOpen (checkOpen_taken hn hs hl hroom htaken)
  case busy =>
    exact fun hn hs hl hroom hfree hletter hfill =>
      refused_takeSheetOpen (checkOpen_fill_under_way hn hs hl hroom hfree hletter hfill)

end Sys2Proof.Machine
end

section
/-! SUPPORT. The records of a sweep at its close: what sending, counting and raising a source leave, the judgement of a
close by its length and check (R30), its good and bad outcomes (R31, R32), and stray records (R28). -/

namespace Sys2Proof.Machine

open Sys2Proof

/-! ### Records sent, sources raised, sheets set -/

section Operations

variable {s : State}

@[simp] theorem linkOf_setLink_same (p : Port) (l : Link) (s : State) : linkOf (setLink p l s) p = l := by
  simp [linkOf, setLink]

/-- A record made on an UP port is the last of its send order (R166). -/
theorem toSend_send {p : Port} (r : OutRecord) (h : portUp s p = true) :
    (linkOf (send p r s) p).toSend = (linkOf s p).toSend ++ [r] := by
  simp [send_up r h]

/-- A good record leaves the send order of its port as it was, and the port UP or DOWN as it was. -/
@[simp] theorem linkOf_afterGoodRecord (p : Port) (s : State) :
    linkOf (afterGoodRecord p s) p = { linkOf s p with bad := 0 } := linkOf_setLink_same _ _ _

theorem portUp_afterGoodRecord {p : Port} (h : portUp s p = true) : portUp (afterGoodRecord p s) p = true := by
  rw [portUp, linkOf_afterGoodRecord]
  exact h

theorem afterGoodRecord_unchanged (p : Port) (s : State) : Unchanged [.links] s (afterGoodRecord p s) :=
  setLink_unchanged _ _ s

/-- A source that is not urgent joins the pending set and makes no NOTICE (R175). -/
theorem raise_of_not_urgent {src : SourceSet} (h : src &&& urgentSources = 0) :
    raise src s = s.setNotices { s.notices with pending := s.notices.pending ||| src } := by
  simp [raise, h]

/-- A counter rises by one from what it held before an effect that leaves the counters (R179). -/
theorem count_counters_of_eq {t : State} (k : Fin 28) (h : t.counters = s.counters) :
    (count k t).counters = s.counters.set k (s.counters[k] + 1) := by
  rw [← h]
  rfl

theorem sheetAt_setSheet_same {n : Nat} {x : Sheet} (y : Option Sheet) (h : sheetAt s n = some x) :
    sheetAt (setSheet n y s) n = y := by
  have inside : n < 16 := by
    by_contra outside
    simp [sheetAt, Vector.getElem?_eq_none (Nat.le_of_not_lt outside)] at h
  simp [sheetAt, setSheet, Vector.getElem?_setIfInBounds_self_of_lt inside]

theorem sheetAt_setSheet_other {n m : Nat} (y : Option Sheet) (h : m ≠ n) : sheetAt (setSheet n y s) m = sheetAt s m := by
  simp [sheetAt, setSheet, Vector.getElem?_setIfInBounds_ne h.symm]

theorem geometryOf_of_sheetAt {n : Nat} {x : Sheet} (h : sheetAt s n = some x) : geometryOf s n = x.geom := by
  simp [geometryOf, h]

end Operations

/-! ### The judgement of a close (R30) -/

section Judgement

variable {width : Nat} {w : Sweep} {check : BitVec 16}

theorem judgeClose_long (h : w.long = true) : judgeClose width w check = some .long := by
  simp [judgeClose, h]

theorem judgeClose_short (hl : w.long = false) (h : w.received < width) : judgeClose width w check = some .short := by
  simp [judgeClose, hl, h]

theorem judgeClose_check (hl : w.long = false) (hw : w.received = width) (h : w.check ≠ check) :
    judgeClose width w check = some .check := by
  simp [judgeClose, hl, hw, h]

theorem judgeClose_good (hl : w.long = false) (hw : w.received = width) (h : w.check = check) :
    judgeClose width w check = none := by
  simp [judgeClose, hl, hw, h]

end Judgement

/-! ### The outcomes of a close (R31, R32) -/

section Close

variable {s : State} {i : Fin 2} {w : Sweep} {x : Sheet} {check : BitVec 16} {reason : SweepReason}

/-- The sweep `w` of slot `i` has been rewound from `s` to `t` with its result, its notice and its count (R32). -/
def RewoundNoted (i : Fin 2) (w : Sweep) (reason : SweepReason) (s t : State) : Prop :=
  t.ingest = { s.ingest with slots := s.ingest.slots.set i .free }
    ∧ (linkOf t .t).toSend = (linkOf s .t).toSend ++ [.sweepResult w.tag .rewound w.row reason]
    ∧ t.notices.pending = s.notices.pending ||| srcSweepRewound
    ∧ t.counters = s.counters.set cntSweepsRewound (s.counters[cntSweepsRewound] + 1)
    ∧ Unchanged [.ingest, .links, .notices, .counters] s t

/-- SWEEP_REWOUND is no urgent source, so the rewind makes its SWEEP_RESULT and no NOTICE. -/
theorem rewindNoted_of_filling (hf : fillingSweep s = some (i, w)) :
    rewindNoted reason s
      = let u := sendSweepResult w.tag .rewound w.row reason (setSlot i .free s)
        count cntSweepsRewound (u.setNotices { u.notices with pending := u.notices.pending ||| srcSweepRewound }) := by
  simp [rewindNoted, rewind, hf, raise_of_not_urgent (show srcSweepRewound &&& urgentSources = 0 by decide)]

theorem rewoundNoted_rewindNoted (hup : portUp s .t = true) (hf : fillingSweep s = some (i, w)) :
    RewoundNoted i w reason s (rewindNoted reason s) := by
  have sent := send_unchanged .t (.sweepResult w.tag .rewound w.row reason) (setSlot i .free s)
  refine ⟨?slots, ?result, ?notice, ?counted, rewind_unchanged _ _ _ _ _⟩
  all_goals rw [rewindNoted_of_filling hf]
  case slots => exact sent.ingest
  case result => exact toSend_send (s := setSlot i .free s) _ hup
  case notice => exact congrArg (·.pending ||| srcSweepRewound) sent.notices
  case counted => exact count_counters_of_eq _ sent.counters

/-- A rewind at a good record: the port's bad count is no part of what the rewind reads or reports. -/
theorem RewoundNoted.of_afterGoodRecord {t : State} (h : RewoundNoted i w reason (afterGoodRecord .t s) t) :
    RewoundNoted i w reason s t := by
  obtain ⟨slots, result, notice, counted, frame⟩ := h
  rw [linkOf_afterGoodRecord] at result
  exact ⟨slots, result, notice, counted, ((afterGoodRecord_unchanged .t s).mono (by decide)).trans frame⟩

/-- A SWEEP_CLOSE with a reason found against the FILLING sweep (R30). -/
theorem takeSweepClose_bad (hf : fillingSweep s = some (i, w)) (hx : sheetAt s w.sheet = some x)
    (hj : judgeClose x.geom.width w check = some reason) : takeSweepClose check s = rewindNoted reason s := by
  simp [takeSweepClose, hf, geometryOf_of_sheetAt hx, hj]

theorem takeSweepClose_good (hf : fillingSweep s = some (i, w)) (hx : sheetAt s w.sheet = some x)
    (hj : judgeClose x.geom.width w check = none) : takeSweepClose check s = closeGood i w s := by
  simp [takeSweepClose, hf, geometryOf_of_sheetAt hx, hj]

/-- A close found bad rewinds the sweep with the reason found (R30). -/
theorem exec_sweepClose_bad (tag : Tag) (hl : Listening .t s) (hf : fillingSweep s = some (i, w))
    (hx : sheetAt s w.sheet = some x) (hj : judgeClose x.geom.width w check = some reason) :
    ∃ t, exec (.sweepClose tag check) s = .next t ∧ RewoundNoted i w reason s t := by
  refine ⟨_, takeRecord_listening hl, ?_⟩
  have hf' : fillingSweep (afterGoodRecord .t s) = some (i, w) := hf
  have hx' : sheetAt (afterGoodRecord .t s) w.sheet = some x := hx
  rw [takeSweepClose_bad hf' hx' hj]
  exact (rewoundNoted_rewindNoted (portUp_afterGoodRecord hl.2) hf').of_afterGoodRecord

/-- A good close of a RELIEF sheet's sweep, with the sheet's record written out (R31). -/
theorem closeGood_of_relief {r : Relief} (hx : sheetAt s w.sheet = some x) (hk : x.kind = .relief r) :
    closeGood i w s = count cntSweepsGood (sendSweepResult w.tag .good w.row .none
      (setSheet w.sheet (some { x with kind := .relief { r with accepted := r.accepted + 1 } })
        ((setSlot i (.closed w) s).setDrain { s.drain with jobs := s.drain.jobs ++ [.sweep i w.sheet w.row 0] }))) := by
  have hx' (d : Drain) : sheetAt ((setSlot i (.closed w) s).setDrain d) w.sheet = some x := hx
  simp only [closeGood, hx', hk]
  rfl

/-- The sweep `w` of slot `i` has been found good from `s` to `t`: its slot is CLOSED, its job is the last of the list, its
RELIEF sheet `x` has one more row accepted, and its result and its count are made (R31). -/
def ClosedGood (i : Fin 2) (w : Sweep) (x : Sheet) (r : Relief) (s t : State) : Prop :=
  t.ingest = { s.ingest with slots := s.ingest.slots.set i (.closed w) }
    ∧ t.drain = { s.drain with jobs := s.drain.jobs ++ [.sweep i w.sheet w.row 0] }
    ∧ sheetAt t w.sheet = some { x with kind := .relief { r with accepted := r.accepted + 1 } }
    ∧ (∀ m, m ≠ w.sheet → sheetAt t m = sheetAt s m)
    ∧ (linkOf t .t).toSend = (linkOf s .t).toSend ++ [.sweepResult w.tag .good w.row .none]
    ∧ t.counters = s.counters.set cntSweepsGood (s.counters[cntSweepsGood] + 1)
    ∧ Unchanged [.ingest, .drain, .sheets, .links, .counters] s t

theorem closedGood_closeGood {r : Relief} (hup : portUp s .t = true) (hx : sheetAt s w.sheet = some x)
    (hk : x.kind = .relief r) : ClosedGood i w x r s (closeGood i w s) := by
  rw [closeGood_of_relief hx hk]
  set u := (setSlot i (.closed w) s).setDrain { s.drain with jobs := s.drain.jobs ++ [.sweep i w.sheet w.row 0] }
  set y : Sheet := { x with kind := .relief { r with accepted := r.accepted + 1 } }
  have made : Unchanged [.ingest, .drain] s u :=
    ((setSlot_unchanged _ _ s).mono (by decide)).andThen (setDrain_unchanged _ _)
  have sent := send_unchanged .t (.sweepResult w.tag .good w.row .none) (setSheet w.sheet (some y) u)
  have sheets (m : Nat) : sheetAt (count cntSweepsGood (sendSweepResult w.tag .good w.row .none
      (setSheet w.sheet (some y) u))) m = sheetAt (setSheet w.sheet (some y) u) m :=
    congrArg (fun v : Vector (Option Sheet) 16 => v[m]?.join) sent.sheets
  refine ⟨sent.ingest, sent.drain, ?row, ?others, ?result, ?counted, ?frame⟩
  case row => exact (sheets _).trans (sheetAt_setSheet_same (s := u) _ hx)
  case others => exact fun m hm => (sheets m).trans (sheetAt_setSheet_other (s := u) _ hm)
  case result => exact toSend_send (s := setSheet w.sheet (some y) u) _ hup
  case counted => exact count_counters_of_eq _ sent.counters
  case frame =>
    exact (((made.mono (by decide)).andThen (setSheet_unchanged _ _ u)).andThen sent).andThen (count_unchanged _ _)

/-- What a good close reports of the port does not read its bad count. -/
theorem ClosedGood.of_afterGoodRecord {r : Relief} {t : State} (h : ClosedGood i w x r (afterGoodRecord .t s) t) :
    ClosedGood i w x r s t := by
  obtain ⟨slots, jobs, row, others, result, counted, frame⟩ := h
  rw [linkOf_afterGoodRecord] at result
  exact ⟨slots, jobs, row, others, result, counted, ((afterGoodRecord_unchanged .t s).mono (by decide)).trans frame⟩

/-- A close found good makes a sweep job of the sweep (R30, R31). -/
theorem exec_sweepClose_good {r : Relief} (tag : Tag) (hl : Listening .t s) (hf : fillingSweep s = some (i, w))
    (hx : sheetAt s w.sheet = some x) (hj : judgeClose x.geom.width w check = none) (hk : x.kind = .relief r) :
    ∃ t, exec (.sweepClose tag check) s = .next t ∧ ClosedGood i w x r s t := by
  refine ⟨_, takeRecord_listening hl, ?_⟩
  have hf' : fillingSweep (afterGoodRecord .t s) = some (i, w) := hf
  have hx' : sheetAt (afterGoodRecord .t s) w.sheet = some x := hx
  rw [takeSweepClose_good hf' hx' hj]
  exact (closedGood_closeGood (portUp_afterGoodRecord hl.2) hx' hk).of_afterGoodRecord

end Close

/-- Settles O24: the judgement gives a reason in each bad row of the table, and a close with a reason rewinds the sweep;
with none the sweep is CLOSED with its job and its row. -/
theorem sweepCloseIsJudgedByLengthAndCheck : Obligations.SweepCloseIsJudgedByLengthAndCheck := by
  intro s tag check i w x hl hf hx
  refine ⟨?long, ?short, ?check, ?good⟩
  case long => exact fun h => exec_sweepClose_bad tag hl hf hx (judgeClose_long h)
  case short => exact fun hn h => exec_sweepClose_bad tag hl hf hx (judgeClose_short hn h)
  case check => exact fun hn hw h => exec_sweepClose_bad tag hl hf hx (judgeClose_check hn hw h)
  case good =>
    intro r hn hw hc hk
    exact exec_sweepClose_good tag hl hf hx (judgeClose_good hn hw hc) hk

/-! ### Stray records (R28) -/

section Stray

variable {s : State}

/-- With no sweep FILLING both records that fill a sweep do the same: they are counted as stray (R28). -/
theorem exec_of_stray {c : Instr} (hl : Listening .t s) (hf : fillingSweep s = none)
    (hc : (∃ tag xs, c = .samples tag xs) ∨ ∃ tag k, c = .sweepClose tag k) :
    exec c s = .next (strayRecord (afterGoodRecord .t s)) := by
  have hf' : fillingSweep (afterGoodRecord .t s) = none := hf
  obtain ⟨tag, xs, rfl⟩ | ⟨tag, k, rfl⟩ := hc
  · have stray : takeSamples xs (afterGoodRecord .t s) = strayRecord (afterGoodRecord .t s) := by simp [takeSamples, hf']
    exact stray ▸ takeRecord_listening hl
  · have stray : takeSweepClose k (afterGoodRecord .t s) = strayRecord (afterGoodRecord .t s) := by
      simp [takeSweepClose, hf']
    exact stray ▸ takeRecord_listening hl

theorem strayRecord_unchanged (s : State) : Unchanged [.ingest] s (strayRecord s) := setIngest_unchanged _ s

theorem slotReported_slotReport (x : Slot) : SlotReported x (slotReport x) := by
  cases x with
  | free => exact ⟨rfl, rfl⟩
  | filling w => exact ⟨rfl, rfl⟩
  | closed w => exact ⟨rfl, rfl⟩
  | draining w => exact ⟨rfl, rfl⟩

theorem statusReport_slot (i : Fin 2) : (statusReport s).slots[i.val]? = some (slotReport s.ingest.slots[i]) := by
  rw [statusReport, List.getElem?_map, Vector.getElem?_toList, Fin.getElem_fin, Vector.getElem?_eq_getElem i.isLt]
  rfl

/-- STATUS_READ is answered with the report of the state that its request has left (R171). -/
theorem exec_statusRead {tag : Tag} {rest : List Request} (h : AtFront ⟨tag, .statusRead⟩ rest s) :
    exec (.statusRead tag) s
      = .next (answerWith ⟨tag, .statusRead⟩ .done (.status (statusReport (s.setCellQueue rest))) (s.setCellQueue rest)) :=
  takeRequest_front (act := fun u => answerWith ⟨tag, .statusRead⟩ .done (.status (statusReport u)) u) h

end Stray

/-- Settles O25: either record goes to `strayRecord`, and STATUS_READ reports what `statusReport` reads of the ingest. -/
theorem strayRecordIsDroppedAndCounted : Obligations.StrayRecordIsDroppedAndCounted := by
  intro s
  constructor
  · intro c hl hf hc
    exact ⟨_, exec_of_stray hl hf hc, rfl, rfl,
      ((afterGoodRecord_unchanged .t s).mono (by decide)).andThen (strayRecord_unchanged _)⟩
  · intro tag rest hfront hup
    refine ⟨_, statusReport (s.setCellQueue rest), exec_statusRead hfront, ?sent, rfl, ?count, ?slots⟩
    case sent => exact toSend_send (s := s.setCellQueue rest) _ hup
    case count => simp [statusReport]
    case slots => exact fun i => ⟨_, statusReport_slot i, slotReported_slotReport _⟩

end Sys2Proof.Machine
end

section
/-! SUPPORT. The entry that the feeder makes (R37): what it leaves unchanged, the base mode judged with it (R109), the
choice after it (R105), and the words of a sweep job (R38). -/

namespace Sys2Proof.Machine

open Sys2Proof

/-! ### A choice keeps the base mode (R106, R109) -/

/-- The base mode and its entry count are the same in `t` as in `s`. -/
def BaseModeKept (s t : State) : Prop :=
  t.sched.baseMode = s.sched.baseMode ∧ t.counters[cntWriteFirst] = s.counters[cntWriteFirst]

section BaseModeKept

variable {s t u : State}

theorem BaseModeKept.refl (s : State) : BaseModeKept s s := ⟨rfl, rfl⟩

theorem BaseModeKept.trans (h₁ : BaseModeKept s t) (h₂ : BaseModeKept t u) : BaseModeKept s u :=
  ⟨h₂.1.trans h₁.1, h₂.2.trans h₁.2⟩

theorem Unchanged.baseModeKept {c : List Block} (h : Unchanged c s t) (hs : Block.sched ∉ c := by decide)
    (hc : Block.counters ∉ c := by decide) : BaseModeKept s t :=
  ⟨congrArg Scheduler.baseMode (h.sched hs), congrArg (·[cntWriteFirst]) (h.counters hc)⟩

theorem count_baseModeKept {k : Fin 28} (s : State) (h : k ≠ cntWriteFirst := by decide) : BaseModeKept s (count k s) :=
  ⟨rfl, Vector.getElem_set_ne k.isLt cntWriteFirst.isLt (Fin.val_ne_of_ne h)⟩

theorem judgeDeadline_baseModeKept (s : State) : BaseModeKept s (judgeDeadline s) := by
  unfold judgeDeadline
  dsimp only
  split
  · exact count_baseModeKept _
  · exact .refl s

theorem accessBank_baseModeKept (b : Fin 8) (s : State) : BaseModeKept s (accessBank b s) := by
  unfold accessBank
  refine BaseModeKept.trans ?_ (setBank_unchanged _ _ _).baseModeKept
  split
  · exact count_baseModeKept s
  · exact .refl s

theorem issueOpen_baseModeKept (b : Fin 8) (row : Nat) (s : State) : BaseModeKept s (issueOpen b row s) :=
  (setInFlight_unchanged _ s).baseModeKept.trans (count_baseModeKept _)

theorem issueClose_baseModeKept (b : Fin 8) (s : State) : BaseModeKept s (issueClose b s) :=
  (issueClose_unchanged b s).baseModeKept

/-- Each access begins with its operation in flight and its bank accessed. -/
theorem access_baseModeKept (b : Fin 8) (x : Option InFlight) (s : State) :
    BaseModeKept s (accessBank b (setInFlight x s)) :=
  (setInFlight_unchanged x s).baseModeKept.trans (accessBank_baseModeKept b _)

theorem issueFetch_baseModeKept (k : QueryCandidate) (s : State) : BaseModeKept s (issueFetch k s) :=
  ((access_baseModeKept _ _ s).trans (setQueries_unchanged _ _).baseModeKept).trans (judgeDeadline_baseModeKept _)

theorem issueDrain_baseModeKept (e : Entry) (s : State) : BaseModeKept s (issueDrain e s) := by
  unfold issueDrain
  split
  · exact (access_baseModeKept _ _ s).trans (count_baseModeKept _)
  · exact access_baseModeKept _ _ s
  · exact access_baseModeKept _ _ s

theorem issueWindow_baseModeKept (p : Bool) (w : WindowRead) (y k : Nat) (s : State) :
    BaseModeKept s (issueWindow p w y k s) := by
  have moved := (access_baseModeKept (bankOf (windowTile s w y k)) (some ⟨.read (windowTile s w y k) (wordOf (4 * k) y)
    (.window y k), some w.sheet, false, false⟩) s).trans
      (setWindow_unchanged (some (advanceWindow (rowReadable s w.sheet) w)) _).baseModeKept
  exact ⟨moved.1, moved.2⟩

theorem countPreemption_baseModeKept (b : Fin 8) (s : State) : BaseModeKept s (countPreemption b s) := by
  unfold countPreemption
  split
  · exact count_baseModeKept s
  · exact .refl s

theorem toward_baseModeKept {access closing : State → State} (tile : Nat) (s : State)
    (ha : BaseModeKept s (access s)) (hc : BaseModeKept s (closing s)) :
    BaseModeKept s (toward tile access closing s) := by
  unfold toward
  dsimp only
  split
  · split
    · exact ha
    · exact hc.trans (issueClose_baseModeKept _ _)
  · exact issueOpen_baseModeKept _ _ s

theorem towardWindow_baseModeKept (p : Bool) (w : WindowRead) (y k : Nat) (s : State) :
    BaseModeKept s (towardWindow p w y k s) :=
  toward_baseModeKept _ s (issueWindow_baseModeKept p w y k s) (.refl s)

theorem refreshNext_baseModeKept (s : State) : BaseModeKept s (refreshNext s) := by
  unfold refreshNext
  split
  · exact issueClose_baseModeKept _ (s.setSched _)
  · exact .refl s

theorem towardByBaseMode_baseModeKept (h : towardByBaseMode s = some t) : BaseModeKept s t := by
  have query (x) (hx : (firstQuery s).map (fun k => towardQuery k s) = some x) : BaseModeKept s x := by
    obtain ⟨k, -, rfl⟩ := Option.map_eq_some_iff.1 hx
    exact toward_baseModeKept _ s (issueFetch_baseModeKept k s) (.refl s)
  have window (x) (hx : (offeredWord s).map (fun (w, y, k) => towardWindow false w y k s) = some x) :
      BaseModeKept s x := by
    obtain ⟨⟨w, y, k⟩, -, rfl⟩ := Option.map_eq_some_iff.1 hx
    exact towardWindow_baseModeKept false w y k s
  have drain (x) (hx : s.drain.queue.head?.map (fun e => towardDrain e s) = some x) : BaseModeKept s x := by
    obtain ⟨e, -, rfl⟩ := Option.map_eq_some_iff.1 hx
    exact toward_baseModeKept _ s (issueDrain_baseModeKept e s) (.refl s)
  have either {a b : Option State} (ha : ∀ x, a = some x → BaseModeKept s x) (hb : ∀ x, b = some x → BaseModeKept s x)
      (x) (hx : a.or b = some x) : BaseModeKept s x := by
    obtain hx | ⟨-, hx⟩ := Option.or_eq_some_iff.1 hx
    · exact ha x hx
    · exact hb x hx
  unfold towardByBaseMode at h
  dsimp only at h
  split at h
  · exact either query (either window drain) t h
  · exact either drain (either query window) t h

theorem chooseUnforced_baseModeKept (s : State) : BaseModeKept s (chooseUnforced s) := by
  unfold chooseUnforced
  split
  · exact towardByBaseMode_baseModeKept ‹_›
  · split
    · exact refreshNext_baseModeKept s
    · split
      · exact issueClose_baseModeKept _ s
      · exact .refl s

theorem chooseStep_baseModeKept (s : State) : BaseModeKept s (chooseStep s) := by
  unfold chooseStep
  split
  · exact refreshNext_baseModeKept s
  · split
    · exact (count_baseModeKept s).trans (refreshNext_baseModeKept _)
    · split
      · exact toward_baseModeKept _ s (issueFetch_baseModeKept _ s) (countPreemption_baseModeKept _ s)
      · split
        · exact refreshNext_baseModeKept s
        · split
          · exact towardWindow_baseModeKept _ _ _ _ s
          · exact chooseUnforced_baseModeKept s

/-- A choice neither judges the base mode nor counts an entry into WRITE_FIRST (R106, R109). -/
theorem choose_baseModeKept (s : State) : BaseModeKept s (choose s) := by
  unfold choose
  split
  · exact chooseStep_baseModeKept s
  · exact .refl s

end BaseModeKept

/-! ### The judgement of the base mode (R109) -/

section Judgement

variable {s t u : State}

/-- An entry into WRITE_FIRST raises DRAIN_PRESSURE, which is no urgent source: no NOTICE is made at once. -/
theorem judgeBaseMode_enter (hm : s.sched.baseMode = .readFirst) (h : s.settings.drainHigh ≤ s.drain.queue.length) :
    judgeBaseMode s = count cntWriteFirst ((s.setSched { s.sched with baseMode := .writeFirst }).setNotices
      { s.notices with pending := s.notices.pending ||| srcDrainPressure }) := by
  simp [judgeBaseMode, hm, h, raise_of_not_urgent (show srcDrainPressure &&& urgentSources = 0 by decide)]

theorem judgeBaseMode_stay_readFirst (hm : s.sched.baseMode = .readFirst) (h : s.drain.queue.length < s.settings.drainHigh) :
    judgeBaseMode s = s := by
  simp [judgeBaseMode, hm, Nat.not_le.2 h]

theorem judgeBaseMode_writeFirst (hm : s.sched.baseMode = .writeFirst) :
    judgeBaseMode s
      = if s.drain.queue.length ≤ lowMark s then s.setSched { s.sched with baseMode := .readFirst } else s := by
  simp [judgeBaseMode, hm]

/-- Neither outcome of the judgement makes a record, so the links are outside what it changes. -/
theorem judgeBaseMode_sends_nothing (s : State) : Unchanged [.sched, .notices, .counters] s (judgeBaseMode s) := by
  cases hm : s.sched.baseMode with
  | readFirst =>
    by_cases h : s.settings.drainHigh ≤ s.drain.queue.length
    · rw [judgeBaseMode_enter hm h]
      exact (((setSched_unchanged _ s).mono (by decide)).andThen (setNotices_unchanged _ _)).andThen (count_unchanged _ _)
    · rw [judgeBaseMode_stay_readFirst hm (Nat.lt_of_not_le h)]
      exact .refl _ s
  | writeFirst =>
    rw [judgeBaseMode_writeFirst hm]
    split
    · exact (setSched_unchanged _ s).mono (by decide)
    · exact .refl _ s

theorem baseModeJudged_judgeBaseMode (s : State) : BaseModeJudged s (judgeBaseMode s) := by
  have queue : (judgeBaseMode s).drain = s.drain := (judgeBaseMode_sends_nothing s).drain
  unfold BaseModeJudged
  rw [queue]
  refine ⟨?enter, ?stay, ?leave⟩
  case enter =>
    intro hm h
    rw [judgeBaseMode_enter hm h]
    have raised : (s.notices.pending ||| srcDrainPressure).getLsbD 9 = true := by simp [srcDrainPressure]
    exact ⟨rfl, raised, Vector.getElem_set_self cntWriteFirst.isLt⟩
  case stay =>
    intro hm h
    rw [judgeBaseMode_stay_readFirst hm h]
    exact ⟨hm, rfl, rfl⟩
  case leave =>
    intro hm
    rw [judgeBaseMode_writeFirst hm]
    split
    · exact ⟨iff_of_true rfl ‹_›, rfl, rfl⟩
    · exact ⟨iff_of_false (by simp [hm]) ‹_›, rfl, rfl⟩

/-- The judgement reads of the state before it the marks, the mode, the notices and the counters alone. -/
theorem BaseModeJudged.of_unchanged {c : List Block} (h : Unchanged c s u) (hj : BaseModeJudged u t)
    (hs : Block.sched ∉ c := by decide) (hm : Block.settings ∉ c := by decide) (hn : Block.notices ∉ c := by decide)
    (hc : Block.counters ∉ c := by decide) : BaseModeJudged s t := by
  unfold BaseModeJudged at hj ⊢
  rwa [h.sched hs, h.settings hm, h.notices hn, h.counters hc] at hj

theorem BaseModeJudged.after_choose (h : BaseModeJudged s t) : BaseModeJudged s (choose t) := by
  obtain ⟨mode, entries⟩ := choose_baseModeKept t
  have chosen := choose_unchanged t
  unfold BaseModeJudged at h ⊢
  rwa [chosen.drain, chosen.notices, mode, entries]

end Judgement

/-! ### The feeder's step (R37) -/

section Feeder

variable {s : State} {j : Job} {rest : List Job}

/-- The state in which the base mode is judged once the entry of the oldest job `j` has joined the queue (R37). -/
def entryMade (j : Job) (rest : List Job) (s : State) : State :=
  let u := s.setDrain
    { jobs := if j.next + 1 = jobLength s j then rest else j.advance :: rest, queue := s.drain.queue ++ [nextEntry s j] }
  if j.next + 1 = jobLength s j then freeJobPlace j u else startDraining j u

theorem makeEntry_of_jobs (h : s.drain.jobs = j :: rest) : makeEntry s = judgeBaseMode (entryMade j rest s) := by
  unfold makeEntry entryMade
  rw [h]

theorem startDraining_unchanged (j : Job) (s : State) : Unchanged [.ingest] s (startDraining j s) := by
  unfold startDraining
  split
  · split
    · exact setSlot_unchanged _ _ s
    · exact .refl _ s
  · exact .refl _ s

theorem entryMade_unchanged (j : Job) (rest : List Job) (s : State) :
    Unchanged [.drain, .ingest, .buffers] s (entryMade j rest s) := by
  have joined (d : Drain) : Unchanged [.drain, .ingest, .buffers] s (s.setDrain d) :=
    (setDrain_unchanged d s).mono (by decide)
  unfold entryMade
  dsimp only
  split
  · exact (joined _).andThen (freeJobPlace_unchanged _ _)
  · exact (joined _).andThen (startDraining_unchanged _ _)

theorem entryMade_drain (j : Job) (rest : List Job) (s : State) :
    (entryMade j rest s).drain = { jobs := if j.next + 1 = jobLength s j then rest else j.advance :: rest,
                                   queue := s.drain.queue ++ [nextEntry s j] } := by
  unfold entryMade
  dsimp only
  split
  · exact (freeJobPlace_unchanged _ _).drain
  · exact (startDraining_unchanged _ _).drain

/-- What every entry made by the feeder does, of whatever job: the entry joins the queue, the job goes on or leaves the
list, the base mode is judged and the choice follows (R37, R105, R109). -/
theorem exec_feederMakeEntry (hr : s.resetAsserted = false) (h : s.drain.jobs = j :: rest)
    (hmore : j.next < jobLength s j) (hroom : s.drain.queue.length < 64) :
    ∃ t, exec .feederMakeEntry s = .next t
      ∧ t.drain = { jobs := if j.next + 1 = jobLength s j then rest else j.advance :: rest,
                    queue := s.drain.queue ++ [nextEntry s j] }
      ∧ t.ingest = (entryMade j rest s).ingest ∧ t.buffers = (entryMade j rest s).buffers
      ∧ t.mem = s.mem ∧ BaseModeJudged s t
      ∧ ∃ u, t = choose u ∧ u.drain = t.drain
        ∧ Unchanged [.drain, .ingest, .buffers, .sched, .notices, .counters] s u := by
  have ready : feederReady s = true := by simp [feederReady, h, hmore, hroom]
  have made := entryMade_unchanged j rest s
  have judged := judgeBaseMode_sends_nothing (entryMade j rest s)
  have chosen := choose_unchanged (judgeBaseMode (entryMade j rest s))
  have frame : Unchanged [.drain, .ingest, .buffers, .sched, .notices, .counters] s (judgeBaseMode (entryMade j rest s)) :=
    (made.mono (by decide)).andThen judged
  refine ⟨choose (judgeBaseMode (entryMade j rest s)), ?step, ?drain, ?ingest, ?buffers, ?mem, ?mode, _, rfl, ?queue, frame⟩
  case step => exact makeEntry_of_jobs h ▸ takeEvent_due (act := fun s => choose (makeEntry s)) hr ready
  case drain => exact (chosen.drain.trans judged.drain).trans (entryMade_drain j rest s)
  case ingest => exact chosen.ingest.trans judged.ingest
  case buffers => exact chosen.buffers.trans judged.buffers
  case mem => exact chosen.mem.trans frame.mem
  case mode => exact ((baseModeJudged_judgeBaseMode _).of_unchanged made).after_choose
  case queue => exact chosen.drain.symm

end Feeder

/-! ### The words of a sweep job (R38) -/

section SweepJob

variable {s : State} {i : Fin 2} {n y k : Nat} {x : Sheet} {w : Sweep} {rest : List Job}

/-- Bit `b` of a lane lies in one of the four codes joined, by its place in the word (R128). -/
theorem lane_wordOfLanes (f : Nat → Code) (l : Fin 4) : lane (wordOfLanes f) l = f l := by
  apply BitVec.eq_of_getLsbD_eq
  intro b hb
  simp only [lane, wordOfLanes, BitVec.getLsbD_extractLsb', BitVec.getLsbD_append, hb]
  match l with
  | 0 => simp [hb, show b < 32 by omega]
  | 1 => simp [show 16 + b < 32 by omega]
  | 2 => simp [hb]
  | 3 => simp [hb, show ¬ 48 + b < 32 by omega, show ¬ 48 + b - 32 < 16 by omega, show 48 + b - 32 - 16 = b by omega]

theorem getLsbD_allLanes (l : Fin 4) : allLanes.getLsbD l = true := by
  revert l
  decide

/-- The tile of word `k` of a row: eight words of a row lie in one tile (R4, R5). -/
theorem tileOf_wordColumn (g : Geometry) (y k : Nat) :
    tileOf g (4 * k) y = g.base + (y / 32) * (g.width / 32) + k / 8 := by
  rw [tileOf, show 4 * k / 32 = k / 8 by omega]

theorem wordOf_wordColumn (y k : Nat) : wordOf (4 * k) y = (y % 32) * 8 + k % 8 := by
  rw [wordOf, show 4 * k % 32 / 4 = k % 8 by omega]

/-- The slot of a sweep job is CLOSED before its first entry and DRAINING after it (R37). -/
abbrev SlotOfJob (i : Fin 2) (w : Sweep) (k : Nat) (s : State) : Prop :=
  s.ingest.slots[i] = if k = 0 then .closed w else .draining w

theorem SlotOfJob.samples (h : SlotOfJob i w k s) : slotSamples s i = w.samples := by
  unfold slotSamples
  rw [h]
  by_cases h0 : k = 0
  · rw [if_pos h0]
  · rw [if_neg h0]

/-- Lane `l` of entry `k` carries the sample of column `4 k + l` (R38). -/
theorem lane_sweepEntry (h : SlotOfJob i w k s) (l : Fin 4) (hl : 4 * k + l < w.samples.length) :
    w.samples[4 * k + l]? = some (lane (sweepEntry s i n y k).codes l) := by
  rw [sweepEntry, h.samples, lane_wordOfLanes, List.getD_eq_getElem?_getD, List.getElem?_eq_getElem hl]
  rfl

theorem jobLength_sweep (hx : sheetAt s n = some x) : jobLength s (.sweep i n y k) = x.geom.width / 4 := by
  rw [jobLength, geometryOf_of_sheetAt hx]

theorem entryMade_sweep_last (hlast : k + 1 = jobLength s (.sweep i n y k)) :
    (entryMade (.sweep i n y k) rest s).ingest.slots[i] = .free := by
  have made : entryMade (.sweep i n y k) rest s = setSlot i .free (s.setDrain _) := if_pos hlast
  rw [made]
  exact Vector.getElem_set_self i.isLt

theorem startDraining_slot (h : SlotOfJob i w k s) : (startDraining (.sweep i n y k) s).ingest.slots[i] = .draining w := by
  match k with
  | 0 =>
    have first : startDraining (.sweep i n y 0) s = setSlot i (.draining w) s := by
      rw [startDraining, show s.ingest.slots[i] = .closed w from h]
    rw [first]
    exact Vector.getElem_set_self i.isLt
  | _ + 1 => exact h

theorem entryMade_sweep_more (h : SlotOfJob i w k s) (hmore : k + 1 ≠ jobLength s (.sweep i n y k)) :
    (entryMade (.sweep i n y k) rest s).ingest.slots[i] = .draining w := by
  have made : entryMade (.sweep i n y k) rest s = startDraining (.sweep i n y k) (s.setDrain _) := if_neg hmore
  rw [made]
  exact startDraining_slot h

end SweepJob

/-- Settles O26: the feeder's step with the entry of the sweep job, whose fields are those of the row's word `k`. -/
theorem sweepJobMakesTheWordsOfItsRow : Obligations.SweepJobMakesTheWordsOfItsRow := by
  intro s i n y k x w rest hr hjobs hroom hx _ hk hsamples hslot
  have length := jobLength_sweep (i := i) (y := y) (k := k) hx
  obtain ⟨t, step, drain, ingest, -, mem, mode, chosen⟩ := exec_feederMakeEntry hr hjobs (length ▸ hk) hroom
  have place : t.ingest.slots[i] = (entryMade (.sweep i n y k) rest s).ingest.slots[i] := by rw [ingest]
  refine ⟨t, sweepEntry s i n y k, step, ?entry, ?count, rfl, ?tile, wordOf_wordColumn y k, ?lanes, rfl, rfl, ?marker,
    ?goesOn, mem, mode, chosen⟩
  case entry =>
    rw [drain]
    exact List.getLast?_concat
  case count => simp [drain]
  case tile =>
    rw [← geometryOf_of_sheetAt hx]
    exact tileOf_wordColumn _ y k
  case lanes => exact fun l => ⟨getLsbD_allLanes l, lane_sweepEntry hslot l (by omega)⟩
  case marker =>
    rw [← geometryOf_of_sheetAt hx]
    rfl
  case goesOn =>
    rw [place, drain]
    split
    · have last : k + 1 = jobLength s (.sweep i n y k) := by rwa [length]
      exact ⟨if_pos last, entryMade_sweep_last last⟩
    · have more : k + 1 ≠ jobLength s (.sweep i n y k) := by rwa [length]
      exact ⟨if_neg more, entryMade_sweep_more hslot more⟩

end Sys2Proof.Machine
end

section
/-! SUPPORT. The spindles that a set names, contexts changed for each spindle of a list, and SPINDLE_RELEASE (R61, R66). -/

namespace Sys2Proof.Machine

open Sys2Proof

/-! ### Spindle sets (R61, R164) -/

section SpindleSets

variable {bits : BitVec 8}

theorem spindlesOf_outside (h : bits.getLsbD 6 = true ∨ bits.getLsbD 7 = true) : spindlesOf bits = none :=
  if_pos (Bool.or_eq_true_iff.2 h)

theorem mem_allSpindles (n : Fin 6) : n ∈ allSpindles := by
  revert n
  decide

/-- A set that names no number outside 1 to 6 lists the spindles of its bits, none twice. -/
theorem exists_spindlesOf (h6 : bits.getLsbD 6 = false) (h7 : bits.getLsbD 7 = false) :
    ∃ ns, spindlesOf bits = some ns ∧ ns.Nodup ∧ ∀ n, n ∈ ns ↔ bits.getLsbD n.val = true := by
  refine ⟨allSpindles.filter (fun n => bits.getLsbD n.val), ?_, List.Nodup.filter _ (by decide), fun n => ?_⟩
  · rw [spindlesOf, h6, h7]
    rfl
  · simp [mem_allSpindles]

end SpindleSets

/-! ### Contexts changed for each spindle of a list -/

section MapSpindles

variable {n m : Fin 6} {s : State}

theorem spindles_setSpindle (c : Context) : (setSpindle n c s).spindles[m] = if n = m then c else s.spindles[m] := by
  simp [setSpindle, Vector.getElem_set, Fin.ext_iff]

theorem mapSpindles_cons (f : Context → Context) (ns : List (Fin 6)) :
    mapSpindles f (n :: ns) s = mapSpindles f ns (setSpindle n (f s.spindles[n]) s) := rfl

/-- With no spindle listed twice, the context of each listed spindle is changed once, and no other. -/
theorem spindles_mapSpindles (f : Context → Context) {ns : List (Fin 6)} (h : ns.Nodup) :
    (mapSpindles f ns s).spindles[m] = if m ∈ ns then f s.spindles[m] else s.spindles[m] := by
  induction ns generalizing s with
  | nil => rfl
  | cons n ns ih =>
    obtain ⟨fresh, rest⟩ := List.nodup_cons.1 h
    rw [mapSpindles_cons, ih rest, spindles_setSpindle]
    by_cases here : n = m
    · subst here
      simp [fresh]
    · simp [here, Ne.symm here]

end MapSpindles

/-! ### SPINDLE_RELEASE (R66) -/

section Release

variable {bits : BitVec 8} {code : Nat} {q : Request} {rest : List Request} {s : State}

theorem conditionOf_outside (h : 4 ≤ code) : conditionOf code = none := by
  match code with
  | _ + 4 => rfl

/-- A set or a condition that names nothing refuses the request (R61, R66). -/
theorem takeSpindleRelease_bad (h : spindlesOf bits = none ∨ conditionOf code = none) :
    takeSpindleRelease q bits code s = answerRequest q (.refused .badValue) s := by
  unfold takeSpindleRelease
  split
  case h_1 ns r hn hr => simp [hn, hr] at h
  case h_2 => rfl

theorem takeSpindleRelease_good {ns : List (Fin 6)} {r : ReleaseCondition} (hn : spindlesOf bits = some ns)
    (hr : conditionOf code = some r) :
    takeSpindleRelease q bits code s = answerRequest q .done (mapSpindles (setRelease r) ns s) := by
  simp only [takeSpindleRelease, hn, hr]

/-- The condition that a code names is set, with the flag clear, in the contexts of the set, and DONE is the one record
made. -/
theorem takeSpindleRelease_sets {r : ReleaseCondition} (h6 : bits.getLsbD 6 = false) (h7 : bits.getLsbD 7 = false)
    (hr : conditionOf code = some r) :
    let t := takeSpindleRelease q bits code (s.setCellQueue rest)
    (∀ n : Fin 6, t.spindles[n] = if bits.getLsbD n then setRelease r s.spindles[n] else s.spindles[n])
      ∧ Answered q .done .empty rest [.spindles] s t := by
  obtain ⟨ns, hn, nodup, named⟩ := exists_spindlesOf h6 h7
  rw [takeSpindleRelease_good hn hr]
  have mapped := mapSpindles_unchanged (setRelease r) ns (s.setCellQueue rest)
  have kept := (answerWith_unchanged q .done .empty (mapSpindles (setRelease r) ns (s.setCellQueue rest))).spindles
  refine ⟨fun n => ?context, answered_answerRequest _ mapped mapped.links mapped.cellQueue⟩
  calc (answerRequest q .done _).spindles[n]
      _ = (mapSpindles (setRelease r) ns (s.setCellQueue rest)).spindles[n] := congrArg (·[n]) kept
      _ = if n ∈ ns then setRelease r s.spindles[n] else s.spindles[n] := spindles_mapSpindles _ nodup
      _ = _ := if_congr (named n) rfl rfl

end Release

/-- Settles O28: a set or a code that names nothing is refused, and each of the four codes sets its condition in the
contexts of the set. -/
theorem spindleReleaseReplacesTheCondition : Obligations.SpindleReleaseReplacesTheCondition := by
  intro s tag set code rest hfront
  refine ⟨_, takeRequest_front hfront, ?refused, ?released⟩
  case refused =>
    intro bad
    have nameless : spindlesOf set = none ∨ conditionOf code = none :=
      bad.symm.imp spindlesOf_outside conditionOf_outside
    rw [takeSpindleRelease_bad nameless]
    exact refused_answerRequest _
  case released =>
    intro hcode h6 h7
    match code with
    | 0 => exact takeSpindleRelease_sets h6 h7 rfl
    | 1 => exact takeSpindleRelease_sets h6 h7 rfl
    | 2 => exact takeSpindleRelease_sets h6 h7 rfl
    | 3 => exact takeSpindleRelease_sets h6 h7 rfl

end Sys2Proof.Machine
end

section
/-! SUPPORT. The due frame of a depth query: the one offset within the range of due16, and its clamp (R81). -/

namespace Sys2Proof.Machine

open Sys2Proof

/-! ### The offset -/

/-- Cutting an integer to `w` bits and then to `v` of them is cutting it to `v` bits. -/
theorem setWidth_ofInt {v w : Nat} (h : v ≤ w) (k : Int) : (BitVec.ofInt w k).setWidth v = BitVec.ofInt v k := by
  have dvd : ((2 ^ v : Nat) : Int) ∣ (2 ^ w : Nat) := Int.natCast_dvd_natCast.2 (Nat.pow_dvd_pow 2 h)
  apply BitVec.eq_of_toInt_eq
  rw [BitVec.toInt_setWidth, BitVec.toNat_ofInt, Int.toNat_of_nonneg (Int.emod_nonneg _ (by simp)),
    BitVec.toInt_ofInt, Int.bmod_def, Int.bmod_def, Int.emod_emod_of_dvd k dvd]

section Offset

variable {due16 : BitVec 16} {frame : FrameNumber}

theorem le_dueOffset : -32768 ≤ dueOffset due16 frame := BitVec.le_toInt _

theorem dueOffset_le : dueOffset due16 frame ≤ 32767 := BitVec.toInt_le

/-- Of the offsets that 16 bits can hold, `dueOffset` is the one whose frame agrees with due16 in its low 16 bits. -/
theorem lowBits_add_offset_iff {k : Int} (lo : -32768 ≤ k) (hi : k ≤ 32767) :
    (frame + BitVec.ofInt 32 k).setWidth 16 = due16 ↔ k = dueOffset due16 frame := by
  have held : (BitVec.ofInt 16 k).toInt = k :=
    BitVec.toInt_ofInt_eq_self (by decide) (by omega) (by omega)
  calc (frame + BitVec.ofInt 32 k).setWidth 16 = due16
      _ ↔ BitVec.ofInt 16 k + frame.setWidth 16 = due16 := by
        rw [BitVec.setWidth_add _ _ (by decide), setWidth_ofInt (by decide), BitVec.add_comm]
      _ ↔ BitVec.ofInt 16 k = due16 - frame.setWidth 16 := BitVec.eq_sub_iff_add_eq.symm
      _ ↔ k = dueOffset due16 frame := by rw [← BitVec.toInt_inj, held, dueOffset]

/-! ### The clamp -/

theorem dueFrame_of_le (h : dueOffset due16 frame ≤ 4) :
    dueFrame due16 frame = frame + BitVec.ofInt 32 (dueOffset due16 frame) := by
  rw [dueFrame, min_eq_left h]

theorem dueFrame_of_lt (h : 4 < dueOffset due16 frame) : dueFrame due16 frame = frame + 4 := by
  rw [dueFrame, min_eq_right h.le]
  rfl

/-- A query that is not late is due at one of the next four marks. -/
theorem exists_dueFrame_ahead (h : 0 < dueOffset due16 frame) :
    ∃ ahead : Nat, 1 ≤ ahead ∧ ahead ≤ 4 ∧ dueFrame due16 frame = frame + BitVec.ofNat 32 ahead := by
  obtain ⟨ahead, clamped⟩ := Int.eq_ofNat_of_zero_le (a := min (dueOffset due16 frame) 4) (by omega)
  exact ⟨ahead, by omega, by omega, by rw [dueFrame, clamped, BitVec.ofInt_natCast]⟩

end Offset

/-! ### Late at arrival (check 5 of R82) -/

/-- A query that is late at arrival is answered by one of the first five checks. -/
theorem arrivalOutcome_mem_of_late {s : State} {n : Fin 6} {tag : Tag} {due16 : BitVec 16}
    (late : dueOffset due16 s.time.frame ≤ 0) :
    arrivalOutcome s n tag due16 ∈
      [some .retract, some .heldUnbound, some .heldBusy, some .heldDuplicate, some .heldLate] := by
  simp only [arrivalOutcome, if_pos late]
  split_ifs <;> simp

/-- Settles O33: the range of the offset, the one frame in it that agrees with due16, the clamp at four frames ahead, and
a query with an offset of 0 or less answered at arrival. -/
theorem dueFrameIsTheNearFrameClampedToFour : Obligations.DueFrameIsTheNearFrameClampedToFour := by
  intro due16 frame
  refine ⟨le_dueOffset, dueOffset_le, ?agrees, fun k lo hi => (lowBits_add_offset_iff lo hi).1, dueFrame_of_le,
    dueFrame_of_lt, exists_dueFrame_ahead, ?late⟩
  case agrees => exact (lowBits_add_offset_iff le_dueOffset dueOffset_le).2 rfl
  case late =>
    rintro s n tag rfl late unanswered
    simpa [unanswered] using arrivalOutcome_mem_of_late (n := n) (tag := tag) late

end Sys2Proof.Machine
end

section
/-! SUPPORT. GET (R65, R164, R170): a spindle by its number, the items as they are stored, and the value or the reason
that `getValue` gives. -/

namespace Sys2Proof.Machine

open Sys2Proof

/-! ### Spindle numbers (R164) -/

theorem spindleOfNumber_succ (m : Fin 6) : spindleOfNumber (m + 1) = some m := by
  have inside : 1 ≤ m.val + 1 ∧ m.val + 1 ≤ 6 := by omega
  exact dif_pos inside

theorem spindleOfNumber_outside {n : Nat} (h : ¬ (1 ≤ n ∧ n ≤ 6)) : spindleOfNumber n = none := dif_neg h

/-! ### Items as stored (R65, R170) -/

/-- The source set of NOTICE_ENABLES is widened to the 16 bits of its record with no bit changed. -/
theorem getSetting_noticeEnables (st : Settings) :
    ∃ x, getSetting st .noticeEnables = .sources x ∧ ∀ k, x.getLsbD k = st.noticeEnables.getLsbD k := by
  refine ⟨_, rfl, fun k => ?_⟩
  rw [BitVec.getLsbD_setWidth, Bool.and_eq_right_iff_imp, decide_eq_true_iff]
  exact fun named => (BitVec.lt_of_getLsbD named).trans (by decide)

/-! ### The value of a GET, or its refusal (R170) -/

section GetValue

variable {s : State} {q : Request} {rest : List Request} {name : ItemName} {spindle selector : Nat}

theorem getValue_param_active (k : ParamName) (m : Fin 6) :
    getValue s (.param k) (m + 1) 1 = .ok (getParam s.spindles[m].active k) := by
  simp [getValue, spindleOfNumber_succ]

theorem getValue_param_staged (k : ParamName) (m : Fin 6) :
    getValue s (.param k) (m + 1) 2 = .ok (getParam s.spindles[m].staged k) := by
  simp [getValue, spindleOfNumber_succ]

theorem getValue_param_noSet (k : ParamName) (m : Fin 6) (h₁ : selector ≠ 1) (h₂ : selector ≠ 2) :
    getValue s (.param k) (m + 1) selector = .error .badValue := by
  simp [getValue, spindleOfNumber_succ, h₁, h₂]

theorem getValue_readOnly (k : ReadOnlyName) (m : Fin 6) :
    getValue s (.readOnly k) (m + 1) selector = .ok (getReadOnly s.spindles[m] k) := by
  simp [getValue, spindleOfNumber_succ]

/-- A name that names nothing, a setting with a spindle number, or a spindle item with a number outside 1 to 6. -/
theorem getValue_badName
    (h : (∃ x, name = .other x) ∨ ((∃ k, name = .setting k) ∧ spindle ≠ 0)
      ∨ (((∃ k, name = .param k) ∨ ∃ k, name = .readOnly k) ∧ ¬ (1 ≤ spindle ∧ spindle ≤ 6))) :
    getValue s name spindle selector = .error .badName := by
  obtain ⟨x, rfl⟩ | ⟨⟨k, rfl⟩, global⟩ | ⟨⟨k, rfl⟩ | ⟨k, rfl⟩, outside⟩ := h
  · rfl
  · exact if_neg global
  · simp [getValue, spindleOfNumber_outside outside]
  · simp [getValue, spindleOfNumber_outside outside]

/-- A value found is the body of DONE; no item is read from the queue that the request has left. -/
theorem answered_takeGet {v : Value} (h : getValue s name spindle selector = .ok v) :
    Answered q .done (.value v) rest [] s (takeGet q name spindle selector (s.setCellQueue rest)) := by
  have h' : getValue (s.setCellQueue rest) name spindle selector = .ok v := h
  unfold takeGet
  rw [h']
  exact answered_report _ _

theorem refused_takeGet {r : Reason} (h : getValue s name spindle selector = .error r) :
    Refused q r rest s (takeGet q name spindle selector (s.setCellQueue rest)) := by
  have h' : getValue (s.setCellQueue rest) name spindle selector = .error r := h
  unfold takeGet
  rw [h']
  exact refused_answerRequest r

end GetValue

/-- Settles O10: each item is given as it is stored, and the request leaves the queue with the value, or with the reason,
that `getValue` gives in its case. -/
theorem getReturnsWhatIsStored : Obligations.GetReturnsWhatIsStored := by
  refine ⟨fun st => ?settings, fun p => ?params, fun c => ?readOnlys, ?taken⟩
  case settings =>
    exact ⟨rfl, rfl, rfl, rfl, rfl, rfl, rfl, rfl, rfl, rfl, getSetting_noticeEnables st, rfl⟩
  case params =>
    exact ⟨rfl, rfl, rfl, rfl, rfl, rfl, rfl, rfl, rfl, rfl, rfl, rfl⟩
  case readOnlys =>
    exact ⟨rfl, rfl, rfl, rfl, rfl, rfl, rfl⟩
  case taken =>
    intro s tag name spindle selector rest hfront
    refine ⟨_, takeRequest_front hfront, ?setting, ?param, ?readOnly, ?badName⟩
    case setting =>
      rintro k rfl rfl
      exact answered_takeGet rfl
    case param =>
      rintro k m rfl rfl
      refine ⟨?active, ?staged, ?noSet⟩
      case active =>
        rintro rfl
        exact answered_takeGet (getValue_param_active k m)
      case staged =>
        rintro rfl
        exact answered_takeGet (getValue_param_staged k m)
      case noSet => exact fun h₁ h₂ => refused_takeGet (getValue_param_noSet k m h₁ h₂)
    case readOnly =>
      rintro k m rfl rfl
      exact answered_takeGet (getValue_readOnly k m)
    case badName => exact fun bad => refused_takeGet (getValue_badName bad)

end Sys2Proof.Machine
end

section
/-! SUPPORT. What each command can change, said once: the guards that commands share read backwards, the parts that the
act of each command touches, and `exec_unchanged`, which puts the two together. -/

namespace Sys2Proof.Machine

/- A proof is elaborated in a task of its own. `set_option Elab.async false in` before a theorem makes the compile wait there
for the proofs before it, so that only a few are under way at a time; the linters, which would keep every proof's syntax
tree, are off, so that the compile of the whole text stays within its memory. -/
set_option linter.all false

open Sys2Proof

/-! ### The guards, read backwards -/

section Guards

variable {s t : State} {q : Request} {p : Port} {act : State → State} {due : Bool} {why : Fault} {parts : List Block}

/-- A request that answers a next state was held by the reset input, or left the front of the queue (R167, R174). -/
theorem takeRequest_next (h : takeRequest q act s = .next t) :
    s = t ∨ ∃ rest, s.cellQueue = q :: rest ∧ act (s.setCellQueue rest) = t := by
  unfold takeRequest whileRunning at h
  split at h
  · cases h
    exact .inl rfl
  · split at h
    · cases h
    · split at h
      · rename_i r rest front here
        cases h
        exact .inr ⟨rest, here ▸ front, rfl⟩
      · cases h

/-- A record that answers a next state was held by the reset input, was taken on an UP port, or returned the idle count of
a DOWN port to 0 (R160, R165, R174). -/
theorem takeRecord_next (h : takeRecord p act s = .next t) :
    s = t ∨ act (afterGoodRecord p s) = t ∨ setLink p { linkOf s p with idle := 0 } s = t := by
  unfold takeRecord whileRunning at h
  split at h
  · cases h
    exact .inl rfl
  · split at h
    · cases h
      exact .inr (.inl rfl)
    · cases h
      exact .inr (.inr rfl)

/-- An event that answers a next state was held by the reset input, or had been raised. -/
theorem takeEvent_next (h : takeEvent due why act s = .next t) : s = t ∨ (due = true ∧ act s = t) := by
  unfold takeEvent whileRunning at h
  split at h
  · cases h
    exact .inl rfl
  · split at h
    · cases h
      exact .inr ⟨‹_›, rfl⟩
    · cases h

theorem whileRunning_next (h : whileRunning s (.next (act s)) = .next t) : s = t ∨ act s = t := by
  unfold whileRunning at h
  split at h
  · cases h
    exact .inl rfl
  · cases h
    exact .inr rfl

/-- A completion that answers a next state was held by the reset input, or is of the operation in flight (R130). -/
theorem completing_next {k : InFlight → Option Result} (h : completing s k = .next t) :
    s = t ∨ ∃ o, s.port.inFlight = some o ∧ k o = some (.next t) := by
  unfold completing whileRunning at h
  split at h
  · cases h
    exact .inl rfl
  · split at h
    · cases h
    · rename_i o flying
      cases hk : k o with
      | none => simp [hk] at h
      | some r =>
        rw [hk] at h
        exact .inr ⟨o, flying, congrArg some h ▸ hk⟩

theorem takeRequest_unchanged (ha : ∀ s, Unchanged parts s (act s)) (h : takeRequest q act s = .next t) :
    Unchanged (.cellQueue :: parts) s t := by
  obtain rfl | ⟨rest, -, rfl⟩ := takeRequest_next h
  · exact .refl _ _
  · exact ((setCellQueue_unchanged rest s).mono (by simp)).trans ((ha _).mono (by simp +contextual))

theorem takeRecord_unchanged (ha : ∀ s, Unchanged parts s (act s)) (h : takeRecord p act s = .next t) :
    Unchanged (.links :: parts) s t := by
  obtain rfl | rfl | rfl := takeRecord_next h
  · exact .refl _ _
  · exact ((afterGoodRecord_unchanged p s).mono (by simp)).trans ((ha _).mono (by simp +contextual))
  · exact (setLink_unchanged _ _ s).mono (by simp)

theorem takeEvent_unchanged (ha : ∀ s, Unchanged parts s (act s)) (h : takeEvent due why act s = .next t) :
    Unchanged parts s t := by
  obtain rfl | ⟨-, rfl⟩ := takeEvent_next h
  · exact .refl _ _
  · exact ha s

theorem takeRunning_unchanged (ha : ∀ s, Unchanged parts s (act s)) (h : whileRunning s (.next (act s)) = .next t) :
    Unchanged parts s t := by
  obtain rfl | rfl := whileRunning_next h
  · exact .refl _ _
  · exact ha s

end Guards

/-! ### What the act of each command touches -/

section Acts

variable (s : State) (q : Request)

theorem judgeDrainMark_unchanged (k : SettingName) (x : Settings) :
    Unchanged [.settings, .sched, .notices, .counters] s (storeSettings k x s) := by
  have stored : Unchanged [.settings, .sched, .notices, .counters] s (s.setSettings x) :=
    (setSettings_unchanged x s).mono (by decide)
  have judged := stored.andThen (judgeBaseMode_sends_nothing _)
  unfold storeSettings
  dsimp only
  split
  · exact judged
  · exact judged
  · exact stored

theorem answerSet_unchanged {α : Type} {parts : List Block} (o : SetOutcome α) (store : α → State → State)
    (h : ∀ x, Unchanged parts s (store x s)) : Unchanged (.links :: parts) s (answerSet q o store s) := by
  have stored (x) : Unchanged (.links :: parts) s (store x s) := (h x).mono (by simp +contextual)
  unfold answerSet
  split
  · exact (answerRequest_unchanged _ _ s).mono (by simp)
  · exact (stored _).trans ((answerRequest_unchanged _ _ _).mono (by simp))
  · exact (stored _).trans ((answerWith_unchanged _ _ _ _).mono (by simp))

theorem takeSet_unchanged (n : ItemName) (spindle : Nat) (v : Value) :
    Unchanged [.links, .settings, .sched, .notices, .counters, .spindles] s (takeSet q n spindle v s) := by
  have refused (r) : Unchanged [.links, .settings, .sched, .notices, .counters, .spindles] s
      (answerRequest q (.refused r) s) := (answerRequest_unchanged q (.refused r) s).mono (by decide)
  unfold takeSet
  split
  · split
    · exact (answerSet_unchanged s q _ _ (fun x => judgeDrainMark_unchanged s _ x)).mono (by decide)
    · exact refused _
  · split
    · exact (answerSet_unchanged s q _ _ (fun x => setSpindle_unchanged _ _ s)).mono (by decide)
    · exact refused _
  · exact refused _
  · exact refused _

theorem takeGet_unchanged (n : ItemName) (spindle selector : Nat) :
    Unchanged [.links] s (takeGet q n spindle selector s) := by
  unfold takeGet
  split
  · exact answerWith_unchanged _ _ _ s
  · exact answerRequest_unchanged _ _ s

set_option Elab.async false in
theorem takeSheetStatus_unchanged (n : Nat) : Unchanged [.links] s (takeSheetStatus q n s) := by
  unfold takeSheetStatus
  split
  · exact answerRequest_unchanged _ _ s
  · exact answerWith_unchanged _ _ _ s

theorem openSheet_unchanged (n : Nat) (x : Sheet) : Unchanged [.sheets, .drain] s (openSheet n x s) := by
  have opened : Unchanged [.sheets, .drain] s (setSheet n (some x) s) := (setSheet_unchanged _ _ s).mono (by decide)
  unfold openSheet
  dsimp only
  split
  · exact opened.andThen (setDrain_unchanged _ _)
  · exact opened

theorem takeSheetOpen_unchanged (f : OpenFields) : Unchanged [.links, .sheets, .drain] s (takeSheetOpen q f s) := by
  unfold takeSheetOpen
  split
  · exact (answerRequest_unchanged _ _ s).mono (by decide)
  · exact ((openSheet_unchanged s _ _).mono (by decide)).andThen (answerRequest_unchanged _ _ _)

theorem takeSheetReady_unchanged (n : Nat) : Unchanged [.links, .sheets] s (takeSheetReady q n s) := by
  have answered (r) : Unchanged [.links, .sheets] s (answerRequest q r s) :=
    (answerRequest_unchanged q r s).mono (by decide)
  have waits (x) : Unchanged [.links, .sheets] s (testSheetReady n (setSheet n x s)) :=
    ((setSheet_unchanged n x s).mono (by decide)).andThen (testSheetReady_unchanged _ _)
  unfold takeSheetReady
  split
  · exact answered _
  · split
    · exact answered _
    · split
      · exact answered _
      · exact answered _
      · exact answered _
      all_goals
        split
        · exact answered _
        · exact waits _

theorem rewindIfFor_unchanged (n : Nat) :
    Unchanged [.ingest, .links, .notices, .counters] s (rewindIfFor n s) := by
  unfold rewindIfFor
  split
  · split
    · exact rewind_unchanged _ _ _ _ s
    · exact .refl _ s
  · exact .refl _ s

theorem abandonWindowOn_unchanged (n : Nat) : Unchanged [.port, .window, .links] s (abandonWindowOn n s) := by
  unfold abandonWindowOn
  split
  · split
    · exact endWindowWith_unchanged _ s
    · exact .refl _ s
  · exact .refl _ s

/-- The parts that a close of a sheet can change. -/
abbrev closeParts : List Block :=
  [.links, .sheets, .ingest, .drain, .buffers, .spindles, .queries, .sched, .port, .window, .notices, .counters]

theorem settleSheetWork_unchanged (n : Nat) : Unchanged closeParts s (settleSheetWork n s) := by
  unfold settleSheetWork
  dsimp only
  exact (((((((answerAndRemove_unchanged _ _ s).mono (by decide)).andThen (removeJobs_unchanged _ _)).andThen
    (removeEntries_unchanged _ _)).andThen (rewindIfFor_unchanged _ _)).andThen
      (abandonWindowOn_unchanged _ _)).andThen (refuseReady_unchanged _ _)).andThen (discardInFlight_unchanged _ _)

theorem retireOrFree_unchanged (n : Nat) : Unchanged [.sheets, .links] s (retireOrFree q n s) := by
  have sheet (x) : Unchanged [.sheets, .links] s (setSheet n x s) := (setSheet_unchanged n x s).mono (by decide)
  unfold retireOrFree
  split
  · split
    · exact sheet _
    · exact .refl _ s
  · exact (sheet _).andThen (answerRequest_unchanged _ _ _)

theorem takeSheetClose_unchanged (n : Nat) : Unchanged closeParts s (takeSheetClose q n s) := by
  have answered (r) : Unchanged closeParts s (answerRequest q r s) := (answerRequest_unchanged q r s).mono (by decide)
  unfold takeSheetClose
  split
  · exact answered _
  · split
    · exact answered _
    · split
      · exact answered _
      · exact (settleSheetWork_unchanged s n).andThen (retireOrFree_unchanged _ _ _)

theorem takeLoadBlock_unchanged (n x y w h : Nat) (codes : List Code) :
    Unchanged [.links, .buffers, .drain] s (takeLoadBlock q n x y w h codes s) := by
  unfold takeLoadBlock
  split
  · exact (answerRequest_unchanged _ _ s).mono (by decide)
  · exact (((setBuffers_unchanged _ s).mono (by decide)).andThen (setDrain_unchanged _ _)).andThen
      (answerRequest_unchanged _ _ _)

set_option Elab.async false in
theorem startWindow_unchanged (tag : Tag) (n x y w h : Nat) :
    Unchanged [.links, .window] s (startWindow tag n x y w h s) :=
  ((setWindow_unchanged _ s).mono (by decide)).trans (settleVoids_unchanged _)

theorem takeReadWindow_unchanged (n x y w h : Nat) :
    Unchanged (.links :: issueParts) s (takeReadWindow q n x y w h s) := by
  unfold takeReadWindow
  split
  · exact (answerRequest_unchanged _ _ s).mono (by decide)
  · exact ((startWindow_unchanged s _ _ _ _ _ _).mono (by decide)).andThen (choose_unchanged _)

theorem takeWindowCancel_unchanged : Unchanged [.links, .port, .window] s (takeWindowCancel q s) := by
  unfold takeWindowCancel
  split
  · exact ((endWindowWith_unchanged _ s).mono (by decide)).andThen (answerRequest_unchanged _ _ _)
  · exact (answerRequest_unchanged _ _ s).mono (by decide)

theorem holdIngest_unchanged : Unchanged [.links, .ingest, .notices, .counters] s
    (answerRequest q .done (rewindNoted .held (s.setIngest { s.ingest with hold := true }))) :=
  (((setIngest_unchanged _ s).mono (by decide)).andThen
    (rewind_unchanged .held true true true (s.setIngest { s.ingest with hold := true }))).andThen
      (answerRequest_unchanged _ _ _)

theorem releaseIngest_unchanged : Unchanged [.links, .ingest] s
    (answerRequest q .done (s.setIngest { s.ingest with hold := false })) :=
  ((setIngest_unchanged _ s).mono (by decide)).andThen (answerRequest_unchanged _ _ _)

theorem flushIngest_unchanged :
    Unchanged [.links, .ingest, .notices, .counters, .drain, .buffers, .sheets] s (flushIngest s) :=
  (((rewind_unchanged _ _ _ _ s).mono (by decide)).andThen (removeJobs_unchanged _ _)).andThen
    (lowerAccepted_unchanged _ _)

theorem takeSpindleRelease_unchanged (bits : BitVec 8) (code : Nat) :
    Unchanged [.links, .spindles] s (takeSpindleRelease q bits code s) := by
  unfold takeSpindleRelease
  split
  · exact ((mapSpindles_unchanged _ _ s).mono (by decide)).andThen (answerRequest_unchanged _ _ _)
  · exact (answerRequest_unchanged _ _ s).mono (by decide)

theorem retractSpindle_unchanged (n : Fin 6) : Unchanged answerParts s (retractSpindle n s) :=
  (answerAndRemove_unchanged _ _ s).andThen (setSpindle_unchanged _ _ _)

theorem takeSpindleRetract_unchanged (bits : BitVec 8) : Unchanged answerParts s (takeSpindleRetract q bits s) := by
  unfold takeSpindleRetract
  split
  · exact (Unchanged.foldl _ (fun s n => retractSpindle_unchanged s n) _ s).andThen (answerRequest_unchanged _ _ _)
  · exact (answerRequest_unchanged _ _ s).mono (by decide)

theorem takeSpindleResume_unchanged (bits : BitVec 8) :
    Unchanged [.links, .spindles] s (takeSpindleResume q bits s) := by
  unfold takeSpindleResume
  split
  · exact ((mapSpindles_unchanged _ _ s).mono (by decide)).andThen (answerRequest_unchanged _ _ _)
  · exact (answerRequest_unchanged _ _ s).mono (by decide)

/-! #### Time -/

theorem sendMarks_unchanged : Unchanged [.links] s (sendMarks s) :=
  Unchanged.foldl _ (fun s _ => send_unchanged _ _ s) _ s

theorem lateAtMark_unchanged : Unchanged (.notices :: answerParts) s (lateAtMark s) := by
  have answered := (answerAndRemove_unchanged (fun r => r.due == s.time.frame) .heldLate s).mono
    (c := .notices :: answerParts) (by decide)
  unfold lateAtMark
  dsimp only
  split
  · exact answered.andThen (raise_unchanged _ _)
  · exact answered

theorem noticeAtMark_unchanged : Unchanged [.notices, .links] s (noticeAtMark s) := by
  have counted (x) : Unchanged [.notices, .links] s (s.setNotices x) := (setNotices_unchanged x s).mono (by decide)
  unfold noticeAtMark
  dsimp only
  split
  · split
    · exact (counted _).andThen (makeNotice_unchanged _)
    · exact counted _
  · exact counted _

/-- The parts that a frame mark and the other events of the time base and the timers can change. -/
abbrev timeParts : List Block := [.time, .links, .spindles, .queries, .sched, .port, .window, .notices, .counters]

theorem takeMark_unchanged : Unchanged timeParts s (takeMark s) := by
  unfold takeMark
  dsimp only
  exact ((((((((setTime_unchanged _ s).mono (by decide)).andThen (sendMarks_unchanged _)).andThen
    (lateAtMark_unchanged _)).andThen (mapSpindles_unchanged _ _ _)).andThen (setSched_unchanged _ _)).andThen
      (holdChunkAtMark_unchanged _)).andThen (noticeAtMark_unchanged _)).andThen (countBy_unchanged _ _ _)

set_option Elab.async false in
theorem markUrgent_unchanged : Unchanged [.queries] s (markUrgent s) := setQueries_unchanged _ s

theorem takeUrgency_unchanged : Unchanged [.time, .queries, .sched, .counters] s (takeUrgency s) :=
  (((setTime_unchanged _ s).mono (by decide)).andThen (markUrgent_unchanged _)).andThen (judgeDeadline_unchanged _)

theorem takeAlarm_unchanged (a : Fin 2) : Unchanged [.time, .spindles, .notices, .links] s (takeAlarm a s) :=
  ((setTime_unchanged _ s).mono (by decide)).andThen (fireAlarm_unchanged _ _)

theorem takeRefreshExpiry_unchanged :
    Unchanged (.notices :: .links :: issueParts) s (takeRefreshExpiry s) := by
  have started : Unchanged (.notices :: .links :: issueParts) s (startInterval s) :=
    (setPort_unchanged _ s).mono (by decide)
  unfold takeRefreshExpiry
  dsimp only
  refine Unchanged.andThen ?_ (choose_unchanged _)
  split
  · exact started.andThen (setPort_unchanged _ _)
  · exact (started.andThen (count_unchanged _ _)).andThen (raise_unchanged _ _)

theorem takeTimerExpiry_unchanged (b : Fin 8) : Unchanged issueParts s (takeTimerExpiry b s) := by
  have judged (row) : Unchanged issueParts s (judgeRow b row s) := (judgeRow_unchanged b row s).mono (by decide)
  unfold takeTimerExpiry
  dsimp only
  split
  · exact (setBank_unchanged _ _ s).mono (by decide)
  · split
    · exact judged _
    · exact (judged _).andThen (choose_unchanged _)

theorem takeOutstanding_unchanged : Unchanged timeParts s (takeOutstanding s) := by
  have step {parts : List Block} {act : State → State} (due : Bool) (h : ∀ s, Unchanged parts s (act s))
      (hp : ∀ b ∈ parts, b ∈ timeParts) (s : State) : Unchanged timeParts s (takeIf due act s) :=
    (takeIf_unchanged due h s).mono hp
  unfold takeOutstanding
  dsimp only
  exact (((((step _ (takeAlarm_unchanged · 0) (by decide) s).trans
    (step _ (takeAlarm_unchanged · 1) (by decide) _)).trans
      (step _ takeMark_unchanged (by decide) _)).trans
        (step _ takeUrgency_unchanged (by decide) _)).trans
          (step _ takeRefreshExpiry_unchanged (by decide) _)).trans
            (Unchanged.foldl _ (fun s b => step _ (takeTimerExpiry_unchanged · b) (by decide) s) _ _)

theorem takeTick_unchanged : Unchanged timeParts s (takeTick s) :=
  ((takeOutstanding_unchanged s).andThen (setTime_unchanged _ _)).andThen (setPort_unchanged _ _)

theorem takeTimeSet_unchanged (v : MachineTime) : Unchanged timeParts s (takeTimeSet q v s) :=
  ((takeOutstanding_unchanged s).andThen (takeLoad_unchanged _ _)).andThen (answerRequest_unchanged _ _ _)

theorem takeAlarmSet_unchanged (unit : Nat) (compare mask : MachineTime) (enable : Nat) :
    Unchanged [.links, .time] s (takeAlarmSet q unit compare mask enable s) := by
  unfold takeAlarmSet
  split
  · split
    · exact ((setTime_unchanged _ s).mono (by decide)).andThen (answerRequest_unchanged _ _ _)
    · exact (answerRequest_unchanged _ _ s).mono (by decide)
  · exact (answerRequest_unchanged _ _ s).mono (by decide)

/-! #### Notices, counters and service reset -/

theorem takeNoticeAck_unchanged (bits : BitVec 16) : Unchanged [.links, .notices] s (takeNoticeAck q bits s) := by
  unfold takeNoticeAck
  split
  · exact ((setNotices_unchanged _ s).mono (by decide)).andThen (answerRequest_unchanged _ _ _)
  · exact (answerRequest_unchanged _ _ s).mono (by decide)

theorem clearCounters_unchanged : Unchanged [.links, .counters] s
    (answerRequest q .done (s.setCounters (.replicate 28 0))) :=
  ((setCounters_unchanged _ s).mono (by decide)).andThen (answerRequest_unchanged _ _ _)

theorem resetIngestAndDrain_unchanged :
    Unchanged [.links, .ingest, .notices, .counters, .drain, .buffers] s (resetIngestAndDrain s) := by
  unfold resetIngestAndDrain
  dsimp only
  exact ((((rewind_unchanged _ _ _ _ s).mono (by decide)).andThen (setIngest_unchanged _ _)).andThen
    (setDrain_unchanged _ _)).andThen (setBuffers_unchanged _ _)

theorem resetSheet_unchanged (n : Nat) : Unchanged [.sheets, .links] s (resetSheet n s) := by
  have refused := refuseReady_unchanged n s
  unfold resetSheet
  dsimp only
  split
  · exact refused
  · split
    · exact refused.andThen (setSheet_unchanged _ _ _)
    · split
      · exact (refused.andThen (setSheet_unchanged _ _ _)).andThen (reply_unchanged _ _ _ _ _)
      · exact refused.andThen (setSheet_unchanged _ _ _)

set_option Elab.async false in
theorem resetSheets_unchanged : Unchanged [.sheets, .links] s (resetSheets s) :=
  (Unchanged.foldl _ (fun s n => resetSheet_unchanged s n) _ s).andThen (lowerAccepted_unchanged _ _)

theorem serviceReset_unchanged : Unchanged closeParts s (serviceReset s) := by
  unfold serviceReset
  dsimp only
  exact ((((((((((resetIngestAndDrain_unchanged s).mono (by decide)).andThen (resetSheets_unchanged _)).andThen
    (endWindowWith_unchanged _ _)).andThen (setQueries_unchanged _ _)).andThen (mapSpindles_unchanged _ _ _)).andThen
      (setPort_unchanged _ _)).andThen (setSched_unchanged _ _)).andThen (setNotices_unchanged _ _)).andThen
        (setCounters_unchanged _ _))

/-! #### Records and symbols -/

theorem takeArrival_unchanged : Unchanged [.links, .cellQueue] s (takeArrival q s) := by
  unfold takeArrival
  split
  · exact (answerRequest_unchanged _ _ s).mono (by decide)
  · exact (setCellQueue_unchanged _ s).mono (by decide)

theorem takeSweepOpen_unchanged (tag : Tag) (n direction row : Nat) :
    Unchanged [.links, .ingest, .notices, .counters] s (takeSweepOpen tag n direction row s) := by
  unfold takeSweepOpen
  split
  · exact (send_unchanged _ _ s).mono (by decide)
  · split
    · exact ((rewind_unchanged _ _ _ _ s).mono (by decide)).andThen (setSlot_unchanged _ _ _)
    · exact .refl _ s

theorem takeSamples_unchanged (xs : List (Code × Bool)) : Unchanged [.ingest, .sheets] s (takeSamples xs s) := by
  have stray : Unchanged [.ingest, .sheets] s (strayRecord s) := (strayRecord_unchanged s).mono (by decide)
  unfold takeSamples
  split
  · exact stray
  · split
    · exact stray
    · exact ((setSlot_unchanged _ _ s).mono (by decide)).andThen (setSheet_unchanged _ _ _)

theorem closeGood_unchanged (i : Fin 2) (w : Sweep) :
    Unchanged [.ingest, .drain, .sheets, .links, .counters] s (closeGood i w s) := by
  have queued (d) : Unchanged [.ingest, .drain, .sheets, .links, .counters] s ((setSlot i (.closed w) s).setDrain d) :=
    ((setSlot_unchanged _ _ s).mono (by decide)).andThen (setDrain_unchanged _ _)
  unfold closeGood
  dsimp only
  refine Unchanged.andThen (Unchanged.andThen ?_ (send_unchanged _ _ _)) (count_unchanged _ _)
  split
  · split
    · exact (queued _).andThen (setSheet_unchanged _ _ _)
    · exact queued _
  · exact queued _

theorem takeSweepClose_unchanged (check : BitVec 16) :
    Unchanged [.ingest, .drain, .sheets, .links, .counters, .notices] s (takeSweepClose check s) := by
  unfold takeSweepClose
  split
  · exact (strayRecord_unchanged s).mono (by decide)
  · split
    · exact (rewind_unchanged _ _ _ _ s).mono (by decide)
    · exact (closeGood_unchanged s _ _).mono (by decide)

theorem takeQuery_unchanged (n : Fin 6) (tag : Tag) (d : BitVec 16) (u v : Int) :
    Unchanged (.window :: answerParts) s (takeQuery n tag d u v s) := by
  unfold takeQuery
  dsimp only
  split
  · exact (answerQuery_unchanged _ _ _ _ _ _ s).mono (by decide)
  · split
    · exact .refl _ s
    · split
      · exact .refl _ s
      · exact ((acceptQuery_unchanged _ _ _ _ _ _ _ s).mono (by decide)).andThen (choose_unchanged _)

theorem takeTouchOff_unchanged (n : Fin 6) (tag : Tag) (length : Nat) :
    Unchanged [.links, .spindles, .notices] s (takeTouchOff n tag length s) := by
  unfold takeTouchOff
  dsimp only
  split
  · exact ((setSpindle_unchanged _ _ s).mono (by decide)).andThen (send_unchanged _ _ _)
  · exact ((send_unchanged _ _ s).mono (by decide)).andThen (raise_unchanged _ _)

theorem takeIdle_unchanged (p : Port) : Unchanged [.links, .notices] s (takeIdle p s) := by
  have set (l) : Unchanged [.links, .notices] s (setLink p l s) := (setLink_unchanged p l s).mono (by decide)
  unfold takeIdle
  dsimp only
  split
  · exact .refl _ s
  · split
    · exact (set _).andThen (raise_unchanged _ _)
    · exact set _

theorem takeOther_unchanged (p : Port) : Unchanged [.links] s (takeOther p s) := by
  unfold takeOther
  dsimp only
  split
  · exact .refl _ s
  · exact setLink_unchanged _ _ s

theorem cellPortDown_unchanged : Unchanged [.port, .window, .cellQueue, .sheets] s (cellPortDown s) :=
  (((dropWindow_unchanged s).mono (by decide)).andThen (setCellQueue_unchanged _ _)).andThen (setSheets_unchanged _ _)

set_option Elab.async false in
theorem spindlePortDown_unchanged (n : Fin 6) : Unchanged answerParts s (spindlePortDown n s) :=
  (withdrawQueries_unchanged _ s).andThen (setSpindle_unchanged _ _ _)

/-- The parts that a port's going DOWN can change. -/
abbrev downParts : List Block :=
  [.links, .notices, .counters, .cellQueue, .sheets, .ingest, .spindles, .queries, .sched, .port, .window]

theorem linkDown_unchanged (p : Port) : Unchanged downParts s (linkDown p s) := by
  have raised : Unchanged downParts s
      (raise srcLinkChange (setLink p { up := false, idle := 0, bad := 0, toSend := [] } s)) :=
    ((setLink_unchanged _ _ s).mono (by decide)).andThen (raise_unchanged _ _)
  unfold linkDown ownersOnDown
  split
  · exact raised.andThen (cellPortDown_unchanged _)
  · exact raised.andThen (rewind_unchanged _ _ _ _ _)
  · exact raised.andThen (spindlePortDown_unchanged _ _)

theorem takeLoss_unchanged (p : Port) : Unchanged downParts s (takeLoss p s) := by
  unfold takeLoss
  dsimp only
  split
  · exact linkDown_unchanged s p
  · exact (setLink_unchanged _ _ s).mono (by decide)

theorem takeBad_unchanged (p : Port) : Unchanged downParts s (takeBad p s) := by
  have counted (l) : Unchanged downParts s (raise srcCheckError (count (cntCheckErrors p) (setLink p l s))) :=
    (((setLink_unchanged p l s).mono (by decide)).andThen (count_unchanged _ _)).andThen (raise_unchanged _ _)
  unfold takeBad
  dsimp only
  split
  · split
    · exact (counted _).andThen (linkDown_unchanged _ p)
    · exact counted _
  · exact (setLink_unchanged _ _ s).mono (by decide)

/-! #### The feeder, the window reader and completions -/

theorem makeEntry_unchanged :
    Unchanged [.drain, .ingest, .buffers, .sched, .notices, .counters] s (makeEntry s) := by
  cases jobs : s.drain.jobs with
  | nil =>
    unfold makeEntry
    rw [jobs]
    exact .refl _ s
  | cons j rest =>
    rw [makeEntry_of_jobs jobs]
    exact ((entryMade_unchanged j rest s).mono (by decide)).andThen (judgeBaseMode_sends_nothing _)

theorem chunkGone_unchanged : Unchanged [.links, .window] s (chunkGone s) := by
  have left (l) : Unchanged [.links, .window] s (setLink .c l s) := (setLink_unchanged _ l s).mono (by decide)
  unfold chunkGone
  dsimp only
  split
  · exact left _
  · exact (left _).andThen (setWindow_unchanged _ _)

theorem beginRun_unchanged : Unchanged issueParts s (beginRun s) := by
  unfold beginRun startInterval
  exact (((setPort_unchanged _ s).mono (by decide)).andThen (setPort_unchanged _ _)).andThen (choose_unchanged _)

theorem completeOpen_unchanged (o : InFlight) (b : Fin 8) (row : Nat) :
    Unchanged completionParts s (completeOpen o b row s) := by
  unfold completeOpen
  dsimp only
  exact ((((setInFlight_unchanged _ s).mono (by decide)).andThen (setBank_unchanged _ _ _)).andThen
    (settleBank_unchanged _ _ _)).andThen (afterCompletion_unchanged _ _)

theorem completeClose_unchanged (o : InFlight) (b : Fin 8) : Unchanged completionParts s (completeClose o b s) :=
  (((setInFlight_unchanged _ s).mono (by decide)).andThen (setBank_unchanged _ _ _)).andThen
    (afterCompletion_unchanged _ _)

theorem completeRefresh_unchanged (o : InFlight) : Unchanged completionParts s (completeRefresh o s) := by
  unfold completeRefresh
  dsimp only
  exact (((setInFlight_unchanged _ s).mono (by decide)).andThen (setPort_unchanged _ _)).andThen
    (afterCompletion_unchanged _ _)

theorem fillMerge_unchanged (word : CellWord) (bad : Bool) : Unchanged [.drain] s (fillMerge word bad s) := by
  unfold fillMerge
  split
  · exact .refl _ s
  · exact setDrain_unchanged _ s

theorem handWord_unchanged (owner : ReadOwner) (word : CellWord) (bad : Bool) :
    Unchanged (.window :: .drain :: answerParts) s (handWord owner word bad s) := by
  unfold handWord
  split
  · exact (deliverFetch_unchanged _ _ _ _ s).mono (by decide)
  · exact (fillMerge_unchanged s _ _).mono (by decide)
  · exact (placeWord_unchanged _ _ _ s).mono (by decide)

/-- The parts that the completion of a READ can change. -/
abbrev readParts : List Block := .mem :: .notices :: .spindles :: .drain :: completionParts

theorem completeRead_unchanged (o : InFlight) (tile word : Nat) (owner : ReadOwner) (upset : StoredBits) :
    Unchanged readParts s (completeRead o tile word owner upset s) := by
  unfold completeRead
  dsimp only
  refine Unchanged.andThen ?_ (afterCompletion_unchanged _ _)
  have read : Unchanged readParts s ((setInFlight none s).setMem (upsetWord (wordAddress tile word) upset s.mem)) :=
    ((setInFlight_unchanged _ s).mono (by decide)).andThen (setMem_unchanged _ _)
  have settled (f) := (read.andThen (noteFinding_unchanged f _)).andThen (settleBank_unchanged o (bankOf tile) _)
  split
  · exact settled _
  · exact (settled _).andThen (handWord_unchanged _ _ _ _)

theorem retireHead_unchanged :
    Unchanged [.drain, .sheets, .sched, .counters, .notices, .links] s (retireHead s) := by
  unfold retireHead
  split
  · exact .refl _ s
  · dsimp only
    have popped (d) : Unchanged [.drain, .sheets, .sched, .counters, .notices, .links] s
        (judgeBaseMode (count cntDrainWritten (s.setDrain d))) :=
      (((setDrain_unchanged d s).mono (by decide)).andThen (count_unchanged _ _)).andThen (judgeBaseMode_unchanged _)
    refine Unchanged.andThen (Unchanged.andThen ?_ (endFill_unchanged _ _)) (testSheetReady_unchanged _ _)
    split
    · exact (popped _).andThen (raiseWritten_unchanged _ _)
    · exact popped _

/-- The parts that the completion of a WRITE can change. -/
abbrev writeParts : List Block := .mem :: .notices :: .drain :: completionParts

theorem completeWrite_unchanged (o : InFlight) (tile word : Nat) (codes : CellWord) :
    Unchanged writeParts s (completeWrite o tile word codes s) := by
  unfold completeWrite
  dsimp only
  refine Unchanged.andThen ?_ (afterCompletion_unchanged _ _)
  have stored : Unchanged writeParts s (settleBank o (bankOf tile)
      ((setInFlight none s).setMem (storeWord (wordAddress tile word) codes s.mem))) :=
    (((setInFlight_unchanged _ s).mono (by decide)).andThen (setMem_unchanged _ _)).andThen
      (settleBank_unchanged _ _ _)
  split
  · exact stored
  · exact stored.andThen (retireHead_unchanged _)

end Acts

/-! ### The completions, read backwards -/

section Completions

variable {s t u : State}

set_option Elab.async false in
theorem next_inj (h : some (.next u : Result) = some (.next t)) : u = t := Host.Outcome.next.inj (Option.some.inj h)

theorem execOpenComplete_next (h : execOpenComplete s = .next t) :
    s = t ∨ ∃ o b row, s.port.inFlight = some o ∧ o.op = .openRow b row ∧ completeOpen o b row s = t := by
  obtain rfl | ⟨o, flying, ho⟩ := completing_next h
  · exact .inl rfl
  · split at ho
    · rename_i b row op
      exact .inr ⟨o, b, row, flying, op, next_inj ho⟩
    · cases ho

theorem execCloseComplete_next (h : execCloseComplete s = .next t) :
    s = t ∨ ∃ o b, s.port.inFlight = some o ∧ o.op = .closeRow b ∧ completeClose o b s = t := by
  obtain rfl | ⟨o, flying, ho⟩ := completing_next h
  · exact .inl rfl
  · split at ho
    · rename_i b op
      exact .inr ⟨o, b, flying, op, next_inj ho⟩
    · cases ho

theorem execRefreshComplete_next (h : execRefreshComplete s = .next t) :
    s = t ∨ ∃ o, s.port.inFlight = some o ∧ o.op = .refresh ∧ completeRefresh o s = t := by
  obtain rfl | ⟨o, flying, ho⟩ := completing_next h
  · exact .inl rfl
  · split at ho
    · rename_i op
      exact .inr ⟨o, flying, op, next_inj ho⟩
    · cases ho

theorem execReadComplete_next {upset : StoredBits} (h : execReadComplete upset s = .next t) :
    s = t ∨ ∃ o tile word owner, s.port.inFlight = some o ∧ o.op = .read tile word owner
      ∧ completeRead o tile word owner upset s = t := by
  obtain rfl | ⟨o, flying, ho⟩ := completing_next h
  · exact .inl rfl
  · split at ho
    · rename_i tile word owner op
      split at ho
      · cases ho
      · exact .inr ⟨o, tile, word, owner, flying, op, next_inj ho⟩
    · cases ho

theorem execWriteComplete_next (h : execWriteComplete s = .next t) :
    s = t ∨ ∃ o tile word codes, s.port.inFlight = some o ∧ o.op = .write tile word codes
      ∧ completeWrite o tile word codes s = t := by
  obtain rfl | ⟨o, flying, ho⟩ := completing_next h
  · exact .inl rfl
  · split at ho
    · rename_i tile word codes op
      split at ho
      · cases ho
      · exact .inr ⟨o, tile, word, codes, flying, op, next_inj ho⟩
    · cases ho

end Completions

/-! ### Every command -/

/-- The parts that a command can change, its guard's among them: the queue that a request leaves, and the link that a
record comes in on. -/
def commandParts : Instr → List Block
  | .set _ _ _ _ => [.cellQueue, .links, .settings, .sched, .notices, .counters, .spindles]
  | .get _ _ _ _ => [.cellQueue, .links]
  | .statusRead _ => [.cellQueue, .links]
  | .sheetOpen _ _ _ _ _ _ _ _ _ _ _ => [.cellQueue, .links, .sheets, .drain]
  | .sheetReady _ _ => [.cellQueue, .links, .sheets]
  | .sheetClose _ _ => .cellQueue :: closeParts
  | .sheetStatus _ _ => [.cellQueue, .links]
  | .loadBlock _ _ _ _ _ _ _ => [.cellQueue, .links, .buffers, .drain]
  | .readWindow _ _ _ _ _ _ => .cellQueue :: .links :: issueParts
  | .windowCancel _ => [.cellQueue, .links, .port, .window]
  | .ingestHold _ => [.cellQueue, .links, .ingest, .notices, .counters]
  | .ingestRelease _ => [.cellQueue, .links, .ingest]
  | .ingestFlush _ => [.cellQueue, .links, .ingest, .notices, .counters, .drain, .buffers, .sheets]
  | .spindleRelease _ _ _ => [.cellQueue, .links, .spindles]
  | .spindleRetract _ _ => .cellQueue :: answerParts
  | .spindleResume _ _ => [.cellQueue, .links, .spindles]
  | .timeSet _ _ => .cellQueue :: timeParts
  | .alarmSet _ _ _ _ _ => [.cellQueue, .links, .time]
  | .noticeAck _ _ => [.cellQueue, .links, .notices]
  | .countersRead _ => [.cellQueue, .links]
  | .countersClear _ => [.cellQueue, .links, .counters]
  | .serviceReset _ => .cellQueue :: closeParts
  | .cellRequestArrives _ _ => [.links, .cellQueue]
  | .sweepOpen _ _ _ _ => [.links, .ingest, .notices, .counters]
  | .samples _ _ => [.links, .ingest, .sheets]
  | .sweepClose _ _ => [.links, .ingest, .drain, .sheets, .counters, .notices]
  | .depthQuery _ _ _ _ _ => .window :: answerParts
  | .touchOff _ _ _ => [.links, .spindles, .notices]
  | .idleSymbol _ => [.links, .notices]
  | .otherSymbol _ => [.links]
  | .lossOfCarrier _ => downParts
  | .badRecord _ _ => downParts
  | .tick => timeParts
  | .frameMark => timeParts
  | .urgencyPoint => [.time, .queries, .sched, .counters]
  | .alarmFire _ => [.time, .spindles, .notices, .links]
  | .powerOnReset =>
    [.resetInput, .powerOns, .sheets, .ingest, .drain, .time, .spindles, .queries, .sched, .port, .mem, .buffers, .window,
      .links, .cellQueue, .settings, .notices, .counters]
  | .powerOnResetRelease => [.resetInput]
  | .initialisationComplete => issueParts
  | .openComplete => completionParts
  | .closeComplete => completionParts
  | .readComplete _ => readParts
  | .writeComplete => writeParts
  | .refreshComplete => completionParts
  | .feederMakeEntry => .drain :: .ingest :: .buffers :: .notices :: issueParts
  | .refreshIntervalExpiry => .notices :: .links :: issueParts
  | .rowCloseTimerExpiry _ => issueParts
  | .windowChunkSent => .links :: issueParts

theorem powerOn_unchanged (s : State) : Unchanged (commandParts .powerOnReset) s (powerOn s) := by
  intro b hb
  cases b with
  | pending => rfl
  | _ => exact absurd (by decide) hb

/-- A command changes nothing outside its parts. -/
theorem exec_unchanged {c : Instr} {s t : State} (h : exec c s = .next t) : Unchanged (commandParts c) s t := by
  cases c with
  | set => exact takeRequest_unchanged (fun s => takeSet_unchanged s _ _ _ _) h
  | get => exact takeRequest_unchanged (fun s => takeGet_unchanged s _ _ _ _) h
  | statusRead tag =>
    exact takeRequest_unchanged (fun s => answerWith_unchanged ⟨tag, .statusRead⟩ .done (.status (statusReport s)) s) h
  | sheetOpen => exact takeRequest_unchanged (fun s => takeSheetOpen_unchanged s _ _) h
  | sheetReady => exact takeRequest_unchanged (fun s => takeSheetReady_unchanged s _ _) h
  | sheetClose => exact takeRequest_unchanged (fun s => takeSheetClose_unchanged s _ _) h
  | sheetStatus => exact takeRequest_unchanged (fun s => takeSheetStatus_unchanged s _ _) h
  | loadBlock => exact takeRequest_unchanged (fun s => takeLoadBlock_unchanged s _ _ _ _ _ _ _) h
  | readWindow => exact takeRequest_unchanged (fun s => takeReadWindow_unchanged s _ _ _ _ _ _) h
  | windowCancel => exact takeRequest_unchanged (fun s => takeWindowCancel_unchanged s _) h
  | ingestHold => exact takeRequest_unchanged (fun s => holdIngest_unchanged s _) h
  | ingestRelease => exact takeRequest_unchanged (fun s => releaseIngest_unchanged s _) h
  | ingestFlush =>
    exact takeRequest_unchanged (fun s => (flushIngest_unchanged s).andThen (answerRequest_unchanged _ _ _)) h
  | spindleRelease => exact takeRequest_unchanged (fun s => takeSpindleRelease_unchanged s _ _ _) h
  | spindleRetract => exact takeRequest_unchanged (fun s => takeSpindleRetract_unchanged s _ _) h
  | spindleResume => exact takeRequest_unchanged (fun s => takeSpindleResume_unchanged s _ _) h
  | timeSet => exact takeRequest_unchanged (fun s => takeTimeSet_unchanged s _ _) h
  | alarmSet => exact takeRequest_unchanged (fun s => takeAlarmSet_unchanged s _ _ _ _ _) h
  | noticeAck => exact takeRequest_unchanged (fun s => takeNoticeAck_unchanged s _ _) h
  | countersRead tag =>
    exact takeRequest_unchanged
      (fun s => answerWith_unchanged ⟨tag, .countersRead⟩ .done (.counters s.counters.toList) s) h
  | countersClear => exact takeRequest_unchanged (fun s => clearCounters_unchanged s _) h
  | serviceReset =>
    exact takeRequest_unchanged (fun s =>
      ((serviceReset_unchanged s).andThen (answerRequest_unchanged _ _ _)).andThen (choose_unchanged _)) h
  | cellRequestArrives =>
    exact (takeRecord_unchanged (fun s => takeArrival_unchanged s _) h).mono (by simp [commandParts])
  | sweepOpen =>
    exact (takeRecord_unchanged (fun s => takeSweepOpen_unchanged s _ _ _ _) h).mono (by simp [commandParts])
  | samples => exact takeRecord_unchanged (fun s => takeSamples_unchanged s _) h
  | sweepClose =>
    exact (takeRecord_unchanged (fun s => takeSweepClose_unchanged s _) h).mono (by simp [commandParts])
  | depthQuery =>
    exact (takeRecord_unchanged (fun s => takeQuery_unchanged s _ _ _ _ _) h).mono (by simp [commandParts])
  | touchOff => exact (takeRecord_unchanged (fun s => takeTouchOff_unchanged s _ _ _) h).mono (by simp [commandParts])
  | idleSymbol => exact takeRunning_unchanged (fun s => takeIdle_unchanged s _) h
  | otherSymbol => exact takeRunning_unchanged (fun s => takeOther_unchanged s _) h
  | lossOfCarrier => exact takeRunning_unchanged (fun s => takeLoss_unchanged s _) h
  | badRecord => exact takeEvent_unchanged (fun s => takeBad_unchanged s _) h
  | tick => exact takeRunning_unchanged takeTick_unchanged h
  | frameMark => exact takeEvent_unchanged takeMark_unchanged h
  | urgencyPoint => exact takeEvent_unchanged takeUrgency_unchanged h
  | alarmFire => exact takeEvent_unchanged (fun s => takeAlarm_unchanged s _) h
  | powerOnReset => exact Host.Outcome.next.inj h ▸ powerOn_unchanged s
  | powerOnResetRelease =>
    rw [← Host.Outcome.next.inj h]
    intro b hb
    cases b with
    | resetInput => exact absurd (by decide) hb
    | _ => rfl
  | initialisationComplete => exact takeEvent_unchanged beginRun_unchanged h
  | openComplete =>
    obtain rfl | ⟨o, b, row, -, -, rfl⟩ := execOpenComplete_next h
    · exact .refl _ _
    · exact completeOpen_unchanged s o b row
  | closeComplete =>
    obtain rfl | ⟨o, b, -, -, rfl⟩ := execCloseComplete_next h
    · exact .refl _ _
    · exact completeClose_unchanged s o b
  | readComplete =>
    obtain rfl | ⟨o, tile, word, owner, -, -, rfl⟩ := execReadComplete_next h
    · exact .refl _ _
    · exact completeRead_unchanged s o tile word owner _
  | writeComplete =>
    obtain rfl | ⟨o, tile, word, codes, -, -, rfl⟩ := execWriteComplete_next h
    · exact .refl _ _
    · exact completeWrite_unchanged s o tile word codes
  | refreshComplete =>
    obtain rfl | ⟨o, -, -, rfl⟩ := execRefreshComplete_next h
    · exact .refl _ _
    · exact completeRefresh_unchanged s o
  | feederMakeEntry =>
    exact takeEvent_unchanged (fun s => ((makeEntry_unchanged s).mono (by decide)).andThen (choose_unchanged _)) h
  | refreshIntervalExpiry => exact takeEvent_unchanged takeRefreshExpiry_unchanged h
  | rowCloseTimerExpiry => exact takeEvent_unchanged (fun s => takeTimerExpiry_unchanged s _) h
  | windowChunkSent =>
    exact takeEvent_unchanged (fun s => (((chunkGone_unchanged s).mono (by decide)).andThen
      (settleVoids_unchanged _)).andThen (choose_unchanged _)) h

end Sys2Proof.Machine
end

section
/-! SUPPORT. The step laws of the memory form, of the extents and of what changes by its events alone: what each command
leaves of the memory, of the sheets and of the frame number. -/

namespace Sys2Proof.Machine

/- A proof is elaborated in a task of its own. `set_option Elab.async false in` before a theorem makes the compile wait there
for the proofs before it, so that only a few are under way at a time; the linters, which would keep every proof's syntax
tree, are off, so that the compile of the whole text stays within its memory. -/
set_option linter.all false

open Sys2Proof

/-! ### The step -/

/-- A step idles, or runs the front command on the state with the queue's rest (log 8). -/
theorem step_next {s t : State} (h : step s = .next t) :
    s = t ∨ ∃ c rest, s.pending = c :: rest ∧ exec c (s.setPending rest) = .next t := by
  unfold step at h
  split at h
  · exact .inl (Host.Outcome.next.inj h)
  · rename_i c rest front
    exact .inr ⟨c, rest, front, h⟩

/-- A law that the queue of commands is no part of, and that every command keeps, is kept by every step. -/
theorem step_keeps {P : State → Prop} (queue : ∀ s rest, P s → P (s.setPending rest))
    (command : ∀ c s t, P s → exec c s = .next t → P t) {s t : State} (hs : P s) (h : step s = .next t) : P t := by
  obtain rfl | ⟨c, rest, -, hc⟩ := step_next h
  · exact hs
  · exact command c _ t (queue s rest hs) hc

/-! ### Requests (R167) -/

/-- The parts that carrying out a request can change. -/
abbrev requestParts : List Block :=
  [.links, .sheets, .ingest, .drain, .buffers, .time, .spindles, .queries, .sched, .port, .window, .settings, .notices,
    .counters]

/-- A command that takes a request takes it from the front and carries it out, which leaves the queue, the memory and what
stands outside the part as they are. -/
theorem exec_request {c : Instr} {q : Request} (hc : c.request? = some q) :
    ∃ act : State → State, (∀ s, exec c s = takeRequest q act s) ∧ ∀ s, Unchanged requestParts s (act s) := by
  cases c with
  | set =>
    cases hc
    exact ⟨_, fun _ => rfl, fun s => (takeSet_unchanged s _ _ _ _).mono (by decide)⟩
  | get =>
    cases hc
    exact ⟨_, fun _ => rfl, fun s => (takeGet_unchanged s _ _ _ _).mono (by decide)⟩
  | statusRead tag =>
    cases hc
    exact ⟨fun s => answerWith ⟨tag, .statusRead⟩ .done (.status (statusReport s)) s, fun _ => rfl,
      fun s => (answerWith_unchanged _ _ _ s).mono (by decide)⟩
  | sheetOpen =>
    cases hc
    exact ⟨_, fun _ => rfl, fun s => (takeSheetOpen_unchanged s _ _).mono (by decide)⟩
  | sheetReady =>
    cases hc
    exact ⟨_, fun _ => rfl, fun s => (takeSheetReady_unchanged s _ _).mono (by decide)⟩
  | sheetClose =>
    cases hc
    exact ⟨_, fun _ => rfl, fun s => (takeSheetClose_unchanged s _ _).mono (by decide)⟩
  | sheetStatus =>
    cases hc
    exact ⟨_, fun _ => rfl, fun s => (takeSheetStatus_unchanged s _ _).mono (by decide)⟩
  | loadBlock =>
    cases hc
    exact ⟨_, fun _ => rfl, fun s => (takeLoadBlock_unchanged s _ _ _ _ _ _ _).mono (by decide)⟩
  | readWindow =>
    cases hc
    exact ⟨_, fun _ => rfl, fun s => (takeReadWindow_unchanged s _ _ _ _ _ _).mono (by decide)⟩
  | windowCancel =>
    cases hc
    exact ⟨_, fun _ => rfl, fun s => (takeWindowCancel_unchanged s _).mono (by decide)⟩
  | ingestHold =>
    cases hc
    exact ⟨_, fun _ => rfl, fun s => (holdIngest_unchanged s _).mono (by decide)⟩
  | ingestRelease =>
    cases hc
    exact ⟨_, fun _ => rfl, fun s => (releaseIngest_unchanged s _).mono (by decide)⟩
  | ingestFlush =>
    cases hc
    exact ⟨_, fun _ => rfl, fun s => ((flushIngest_unchanged s).mono (by decide)).andThen (answerRequest_unchanged _ _ _)⟩
  | spindleRelease =>
    cases hc
    exact ⟨_, fun _ => rfl, fun s => (takeSpindleRelease_unchanged s _ _ _).mono (by decide)⟩
  | spindleRetract =>
    cases hc
    exact ⟨_, fun _ => rfl, fun s => (takeSpindleRetract_unchanged s _ _).mono (by decide)⟩
  | spindleResume =>
    cases hc
    exact ⟨_, fun _ => rfl, fun s => (takeSpindleResume_unchanged s _ _).mono (by decide)⟩
  | timeSet =>
    cases hc
    exact ⟨_, fun _ => rfl, fun s => (takeTimeSet_unchanged s _ _).mono (by decide)⟩
  | alarmSet =>
    cases hc
    exact ⟨_, fun _ => rfl, fun s => (takeAlarmSet_unchanged s _ _ _ _ _).mono (by decide)⟩
  | noticeAck =>
    cases hc
    exact ⟨_, fun _ => rfl, fun s => (takeNoticeAck_unchanged s _ _).mono (by decide)⟩
  | countersRead tag =>
    cases hc
    exact ⟨fun s => answerWith ⟨tag, .countersRead⟩ .done (.counters s.counters.toList) s, fun _ => rfl,
      fun s => (answerWith_unchanged _ _ _ s).mono (by decide)⟩
  | countersClear =>
    cases hc
    exact ⟨_, fun _ => rfl, fun s => (clearCounters_unchanged s _).mono (by decide)⟩
  | serviceReset tag =>
    cases hc
    exact ⟨fun s => choose (answerRequest ⟨tag, .serviceReset⟩ .done (serviceReset s)), fun _ => rfl, fun s => (((serviceReset_unchanged s).mono (by decide)).andThen
      (answerRequest_unchanged _ _ _)).andThen (choose_unchanged _)⟩
  | _ => cases hc

/-- Settles O4: a request at the front leaves the queue before it is carried out, and one elsewhere is not taken. -/
theorem everyRequestIsTakenFromTheFront : Obligations.EveryRequestIsTakenFromTheFront := by
  constructor
  · intro c q rest s hc hfront
    obtain ⟨act, taking, kept⟩ := exec_request hc
    have frame := kept (s.setCellQueue rest)
    exact ⟨_, (taking s).trans (takeRequest_front hfront), frame.cellQueue, frame.mem, frame.pending,
      frame.resetInput.trans hfront.1, frame.powerOns⟩
  · intro c q s hc running elsewhere
    obtain ⟨act, taking, -⟩ := exec_request hc
    exact (taking s).trans (takeRequest_elsewhere running elsewhere)

/-! ### The memory (R128, R140) -/

section MemoryForm

variable {s t : State} {c : Instr}

theorem completeRead_mem (o : InFlight) (tile word : Nat) (owner : ReadOwner) (upset : StoredBits) (s : State) :
    (completeRead o tile word owner upset s).mem = upsetWord (wordAddress tile word) upset s.mem := by
  unfold completeRead
  dsimp only
  rw [(afterCompletion_unchanged _ _).mem]
  split
  · exact (settleBank_unchanged _ _ _).mem.trans (noteFinding_unchanged _ _).mem
  · exact (handWord_unchanged _ _ _ _).mem.trans ((settleBank_unchanged _ _ _).mem.trans (noteFinding_unchanged _ _).mem)

theorem completeWrite_mem (o : InFlight) (tile word : Nat) (codes : CellWord) (s : State) :
    (completeWrite o tile word codes s).mem = storeWord (wordAddress tile word) codes s.mem := by
  unfold completeWrite
  dsimp only
  rw [(afterCompletion_unchanged _ _).mem]
  split
  · exact (settleBank_unchanged _ _ _).mem
  · exact (retireHead_unchanged _).mem.trans (settleBank_unchanged _ _ _).mem

/-- The memory changes by bits going wrong at a READ, by a WRITE, and at power-on reset alone (R132, R140). -/
theorem exec_mem (h : exec c s = .next t) :
    t.mem = s.mem ∨ (∃ a upset, c = .readComplete upset ∧ t.mem = upsetWord a upset s.mem)
      ∨ (∃ a w, c = .writeComplete ∧ t.mem = storeWord a w s.mem)
      ∨ (c = .powerOnReset ∧ t.mem = { cells := [], wrong := [] }) := by
  cases c with
  | readComplete upset =>
    obtain rfl | ⟨o, tile, word, owner, -, -, rfl⟩ := execReadComplete_next h
    · exact .inl rfl
    · exact .inr (.inl ⟨_, upset, rfl, completeRead_mem ..⟩)
  | writeComplete =>
    obtain rfl | ⟨o, tile, word, codes, -, -, rfl⟩ := execWriteComplete_next h
    · exact .inl rfl
    · exact .inr (.inr (.inl ⟨_, codes, rfl, completeWrite_mem ..⟩))
  | powerOnReset => exact .inr (.inr (.inr ⟨rfl, Host.Outcome.next.inj h ▸ rfl⟩))
  | _ => exact .inl ((exec_unchanged h).mem (by simp [commandParts]))

theorem exec_keeps_memory_form (hs : s.mem.wf = true) (h : exec c s = .next t) : t.mem.wf = true := by
  obtain e | ⟨a, upset, -, e⟩ | ⟨a, w, -, e⟩ | ⟨-, e⟩ := exec_mem h
  all_goals rw [e]
  · exact hs
  · exact wf_upsetWord a upset hs
  · exact wf_storeWord a w hs
  · exact wf_empty

end MemoryForm

/-- Settles O55: the memory changes in three ways, each of which keeps its form. -/
theorem everyStepKeepsTheMemoryForm : Obligations.EveryStepKeepsTheMemoryForm := fun _ _ hs h =>
  step_keeps (P := fun s => s.mem.wf = true) (fun _ _ hs => hs) (fun _ _ _ hs h => exec_keeps_memory_form hs h) hs h

/-! ### Sheets that follow sheets (R3, R7) -/

/-- Every sheet of `t` that is not FREE was not FREE in `s`, and is related to what it was there. -/
def SheetsFollow (R : Sheet → Sheet → Prop) (s t : State) : Prop :=
  ∀ n y, sheetAt t n = some y → ∃ x, sheetAt s n = some x ∧ R x y

/-- The rows written of a RELIEF sheet. -/
def Sheet.written? (x : Sheet) : Option Nat := x.relief?.map Relief.written

/-- A sheet has kept its geometry and its rows written. -/
def SameRows (x y : Sheet) : Prop := y.geom = x.geom ∧ y.written? = x.written?

/-- A sheet has kept its geometry, and has at most one row written more. -/
def RowMore (x y : Sheet) : Prop :=
  y.geom = x.geom ∧ (y.written? = x.written? ∨ y.written? = x.written?.map (· + 1))

section Follow

variable {R Q : Sheet → Sheet → Prop} {s t u : State} {c : List Block} {n : Nat} {x y : Sheet}

set_option Elab.async false in
theorem SameRows.refl (x : Sheet) : SameRows x x := ⟨rfl, rfl⟩

theorem SameRows.rowMore (h : SameRows x y) : RowMore x y := ⟨h.1, .inl h.2⟩

theorem SheetsFollow.trans (h₁ : SheetsFollow SameRows s t) (h₂ : SheetsFollow SameRows t u) :
    SheetsFollow SameRows s u := by
  intro n z hz
  obtain ⟨y, hy, g₂, w₂⟩ := h₂ n z hz
  obtain ⟨x, hx, g₁, w₁⟩ := h₁ n y hy
  exact ⟨x, hx, g₂.trans g₁, w₂.trans w₁⟩

theorem SheetsFollow.mono (h : SheetsFollow R s t) (hR : ∀ x y, R x y → Q x y) : SheetsFollow Q s t := by
  intro n y hy
  obtain ⟨x, hx, hxy⟩ := h n y hy
  exact ⟨x, hx, hR x y hxy⟩

theorem SheetsFollow.of_sheets (h : t.sheets = s.sheets) : SheetsFollow SameRows s t := by
  intro n y hy
  exact ⟨y, by rwa [sheetAt, h] at hy, .refl y⟩

theorem Unchanged.sheetsFollow (h : Unchanged c s t) (hb : Block.sheets ∉ c := by decide) :
    SheetsFollow SameRows s t := .of_sheets (h.sheets hb)

theorem SheetsFollow.refl (s : State) : SheetsFollow SameRows s s := .of_sheets rfl

theorem SheetsFollow.foldl {α : Type} (f : State → α → State) (hf : ∀ s a, SheetsFollow SameRows s (f s a))
    (as : List α) : ∀ s, SheetsFollow SameRows s (as.foldl f s) := by
  induction as with
  | nil => exact .refl
  | cons a as ih => exact fun s => (hf s a).trans (ih (f s a))

theorem lt_of_sheetAt (h : sheetAt s n = some x) : n < 16 := by
  by_contra outside
  simp [sheetAt, Vector.getElem?_eq_none (Nat.le_of_not_lt outside)] at h

set_option Elab.async false in
theorem sheetAt_of_le (h : 16 ≤ n) (s : State) : sheetAt s n = none := by
  simp [sheetAt, Vector.getElem?_eq_none h]

theorem sheetAt_setSheet (n m : Nat) (y : Option Sheet) (s : State) :
    sheetAt (setSheet n y s) m = if m = n ∧ n < 16 then y else sheetAt s m := by
  by_cases here : m = n
  · subst here
    by_cases inside : m < 16
    · simp [sheetAt, setSheet, inside]
    · rw [if_neg (by omega), sheetAt_of_le (by omega), sheetAt_of_le (by omega)]
  · rw [if_neg (by omega), sheetAt_setSheet_other y here]

theorem follow_setSheet (hR : ∀ x, R x x) (hx : sheetAt s n = some x) (h : R x y) :
    SheetsFollow R s (setSheet n (some y) s) := by
  intro m z hz
  rw [sheetAt_setSheet] at hz
  split at hz
  · rename_i here
    cases hz
    exact ⟨x, here.1 ▸ hx, h⟩
  · exact ⟨z, hz, hR z⟩

theorem follow_freeSheet (n : Nat) (s : State) : SheetsFollow SameRows s (setSheet n none s) := by
  intro m z hz
  rw [sheetAt_setSheet] at hz
  split at hz
  · cases hz
  · exact ⟨z, hz, .refl z⟩

end Follow

/-! ### What each operation on sheets keeps -/

section SheetOperations

variable (s : State) (n : Nat)

theorem testSheetReady_follow : SheetsFollow SameRows s (testSheetReady n s) := by
  unfold testSheetReady
  split
  · exact .refl s
  · rename_i x hx
    split
    · exact .refl s
    · split
      · exact (follow_setSheet .refl hx ⟨rfl, rfl⟩).trans (reply_unchanged _ _ _ _ _).sheetsFollow
      · exact .refl s

theorem takeSheetReady_follow (q : Request) : SheetsFollow SameRows s (takeSheetReady q n s) := by
  have answered (r) : SheetsFollow SameRows s (answerRequest q r s) := (answerRequest_unchanged q r s).sheetsFollow
  unfold takeSheetReady
  split
  · exact answered _
  · split
    · exact answered _
    · rename_i x hx
      have waits : SheetsFollow SameRows s
          (testSheetReady n (setSheet n (some { x with readyWaiting := some q.tag }) s)) :=
        (follow_setSheet .refl hx ⟨rfl, rfl⟩).trans (testSheetReady_follow _ n)
      split
      · exact answered _
      · exact answered _
      · exact answered _
      all_goals
        split
        · exact answered _
        · exact waits

theorem refuseReady_follow : SheetsFollow SameRows s (refuseReady n s) := by
  unfold refuseReady
  split
  · rename_i x hx
    split
    · exact (follow_setSheet .refl hx ⟨rfl, rfl⟩).trans (reply_unchanged _ _ _ _ _).sheetsFollow
    · exact .refl s
  · exact .refl s

theorem retireOrFree_follow (q : Request) : SheetsFollow SameRows s (retireOrFree q n s) := by
  unfold retireOrFree
  split
  · split
    · rename_i x hx
      exact follow_setSheet .refl hx ⟨rfl, rfl⟩
    · exact .refl s
  · exact (follow_freeSheet n s).trans (answerRequest_unchanged _ _ _).sheetsFollow

theorem settleSheetWork_follow : SheetsFollow SameRows s (settleSheetWork n s) := by
  unfold settleSheetWork
  dsimp only
  exact ((((((answerAndRemove_unchanged _ _ s).sheetsFollow.trans (removeJobs_unchanged _ _).sheetsFollow).trans
    (removeEntries_unchanged _ _).sheetsFollow).trans (rewindIfFor_unchanged _ _).sheetsFollow).trans
      (abandonWindowOn_unchanged _ _).sheetsFollow).trans (refuseReady_follow _ n)).trans
        (discardInFlight_unchanged _ _).sheetsFollow

theorem takeSheetClose_follow (q : Request) : SheetsFollow SameRows s (takeSheetClose q n s) := by
  have answered (r) : SheetsFollow SameRows s (answerRequest q r s) := (answerRequest_unchanged q r s).sheetsFollow
  unfold takeSheetClose
  split
  · exact answered _
  · split
    · exact answered _
    · split
      · exact answered _
      · exact (settleSheetWork_follow s n).trans (retireOrFree_follow _ n q)

/-- A sheet with rows accepted set, where it is SCANNING, to rows written plus `way` (R21, R35). -/
def loweredSheet (way : Nat) (x : Sheet) : Sheet :=
  match x.state, x.kind with
  | .scanning, .relief r => { x with kind := .relief { r with accepted := r.written + way } }
  | _, _ => x

theorem loweredSheet_scanning {way : Nat} {x : Sheet} {r : Relief} (hs : x.state = .scanning) (hk : x.kind = .relief r) :
    loweredSheet way x = { x with kind := .relief { r with accepted := r.written + way } } := by
  simp [loweredSheet, hs, hk]

set_option Elab.async false in
theorem loweredSheet_other {way : Nat} {x : Sheet} (hs : x.state ≠ .scanning) : loweredSheet way x = x := by
  unfold loweredSheet
  split
  · exact absurd ‹_› hs
  · rfl

theorem loweredSheet_letter {way f : Nat} {x : Sheet} (hk : x.kind = .letter f) : loweredSheet way x = x := by
  unfold loweredSheet
  split
  · rename_i h
    rw [hk] at h
    cases h
  · rfl

theorem loweredSheet_sameRows (way : Nat) (x : Sheet) : SameRows x (loweredSheet way x) := by
  unfold loweredSheet
  split
  · rename_i hk
    exact ⟨rfl, by simp [Sheet.written?, Sheet.relief?, hk]⟩
  · exact .refl x

theorem sheetAt_lowerAccepted (f : Nat → Nat) : sheetAt (lowerAccepted f s) n = (sheetAt s n).map (loweredSheet (f n)) := by
  by_cases inside : n < 16
  · simp only [sheetAt, lowerAccepted, State.setSheets_sheets, Vector.getElem?_eq_getElem inside, Option.join_some,
      Vector.getElem_mapFinIdx]
    cases s.sheets[n] with
    | none => rfl
    | some x =>
      simp only [Option.map_some, loweredSheet]
      split <;> simp_all
  · rw [sheetAt_of_le (by omega), sheetAt_of_le (by omega)]
    rfl

theorem lowerAccepted_follow (f : Nat → Nat) : SheetsFollow SameRows s (lowerAccepted f s) := by
  intro m y hy
  rw [sheetAt_lowerAccepted, Option.map_eq_some_iff] at hy
  obtain ⟨x, hx, rfl⟩ := hy
  exact ⟨x, hx, loweredSheet_sameRows _ x⟩

theorem flushIngest_follow : SheetsFollow SameRows s (flushIngest s) :=
  ((rewind_unchanged _ _ _ _ s).sheetsFollow.trans (removeJobs_unchanged _ _).sheetsFollow).trans
    (lowerAccepted_follow _ _)

theorem resetSheet_follow : SheetsFollow SameRows s (resetSheet n s) := by
  have refused := refuseReady_follow s n
  unfold resetSheet
  dsimp only
  split
  · exact refused
  · rename_i x hx
    split
    · rename_i x' hx'
      refine refused.trans (follow_setSheet .refl hx ?_)
      unfold sheetAtServiceReset at hx'
      split at hx'
      · cases hx'
        exact .refl _
      · cases hx'
        exact .refl _
      all_goals
        split at hx' <;> cases hx'
        exact ⟨rfl, rfl⟩
    · split
      · exact (refused.trans (follow_freeSheet n _)).trans (reply_unchanged _ _ _ _ _).sheetsFollow
      · exact refused.trans (follow_freeSheet n _)

theorem resetSheets_follow : SheetsFollow SameRows s (resetSheets s) :=
  (SheetsFollow.foldl _ resetSheet_follow _ s).trans (lowerAccepted_follow _ _)

theorem serviceReset_sheets : (serviceReset s).sheets = (resetSheets (resetIngestAndDrain s)).sheets := by
  unfold serviceReset
  simp only [State.setCounters_sheets, State.setNotices_sheets, State.setSched_sheets, State.setPort_sheets,
    (mapSpindles_unchanged _ _ _).sheets, State.setQueries_sheets, (endWindowWith_unchanged _ _).sheets]

theorem serviceReset_follow : SheetsFollow SameRows s (serviceReset s) := by
  have given_up : SheetsFollow SameRows s (resetSheets (resetIngestAndDrain s)) :=
    (resetIngestAndDrain_unchanged s).sheetsFollow.trans (resetSheets_follow _)
  exact given_up.trans (.of_sheets (serviceReset_sheets s))

theorem takeSamples_follow (xs : List (Code × Bool)) : SheetsFollow SameRows s (takeSamples xs s) := by
  unfold takeSamples
  split
  · exact (strayRecord_unchanged s).sheetsFollow
  · split
    · exact (strayRecord_unchanged s).sheetsFollow
    · rename_i hx
      exact (setSlot_unchanged _ _ s).sheetsFollow.trans (follow_setSheet .refl hx ⟨rfl, rfl⟩)

theorem closeGood_follow (i : Fin 2) (w : Sweep) : SheetsFollow SameRows s (closeGood i w s) := by
  unfold closeGood
  dsimp only
  set u := (setSlot i (.closed w) s).setDrain { s.drain with jobs := s.drain.jobs ++ [.sweep i w.sheet w.row 0] }
  have sent (v : State) : SheetsFollow SameRows v
      (count cntSweepsGood (sendSweepResult w.tag .good w.row .none v)) :=
    (((send_unchanged _ _ v).mono (c := [.links, .counters]) (by decide)).andThen (count_unchanged _ _)).sheetsFollow
  refine SheetsFollow.trans (t := u) (.of_sheets rfl) (SheetsFollow.trans ?_ (sent _))
  split
  · rename_i x hx
    split
    · rename_i r hk
      exact follow_setSheet .refl hx ⟨rfl, by simp [Sheet.written?, Sheet.relief?, hk]⟩
    · exact .refl _
  · exact .refl _

theorem takeSweepClose_follow (check : BitVec 16) : SheetsFollow SameRows s (takeSweepClose check s) := by
  unfold takeSweepClose
  split
  · exact (strayRecord_unchanged s).sheetsFollow
  · split
    · exact (rewind_unchanged _ _ _ _ s).sheetsFollow
    · exact closeGood_follow s _ _

theorem sheetAt_cellPortDown :
    sheetAt (cellPortDown s) n = (sheetAt s n).map (fun x => { x with readyWaiting := none }) := by
  have kept : (dropWindow s).sheets = s.sheets := (dropWindow_unchanged s).sheets
  by_cases inside : n < 16
  · simp [cellPortDown, sheetAt, kept, inside]
  · rw [sheetAt_of_le (by omega), sheetAt_of_le (by omega)]
    rfl

theorem cellPortDown_follow : SheetsFollow SameRows s (cellPortDown s) := by
  intro m y hy
  rw [sheetAt_cellPortDown, Option.map_eq_some_iff] at hy
  obtain ⟨x, hx, rfl⟩ := hy
  exact ⟨x, hx, rfl, rfl⟩

theorem linkDown_follow (p : Port) : SheetsFollow SameRows s (linkDown p s) := by
  have raised : SheetsFollow SameRows s
      (raise srcLinkChange (setLink p { up := false, idle := 0, bad := 0, toSend := [] } s)) :=
    (setLink_unchanged _ _ s).sheetsFollow.trans (raise_unchanged _ _).sheetsFollow
  unfold linkDown ownersOnDown
  split
  · exact raised.trans (cellPortDown_follow _)
  · exact raised.trans (rewind_unchanged _ _ _ _ _).sheetsFollow
  · exact raised.trans (spindlePortDown_unchanged _ _).sheetsFollow

set_option Elab.async false in
theorem takeLoss_follow (p : Port) : SheetsFollow SameRows s (takeLoss p s) := by
  unfold takeLoss
  dsimp only
  split
  · exact linkDown_follow s p
  · exact (setLink_unchanged _ _ s).sheetsFollow

theorem takeBad_follow (p : Port) : SheetsFollow SameRows s (takeBad p s) := by
  have counted (l) : SheetsFollow SameRows s (raise srcCheckError (count (cntCheckErrors p) (setLink p l s))) :=
    ((setLink_unchanged p l s).sheetsFollow.trans (count_unchanged _ _).sheetsFollow).trans
      (raise_unchanged _ _).sheetsFollow
  unfold takeBad
  dsimp only
  split
  · split
    · exact (counted _).trans (linkDown_follow _ p)
    · exact counted _
  · exact (setLink_unchanged _ _ s).sheetsFollow

theorem retireAfter_follow (o : InFlight) : SheetsFollow SameRows s (retireAfter o s) := by
  unfold retireAfter
  dsimp only
  split
  · exact .refl s
  · split
    · exact .refl s
    · split
      · split
        · exact (follow_freeSheet _ s).trans (reply_unchanged _ _ _ _ _).sheetsFollow
        · exact follow_freeSheet _ s
      · exact .refl s

theorem afterCompletion_follow (o : InFlight) : SheetsFollow SameRows s (afterCompletion o s) :=
  ((retireAfter_follow s o).trans (judgeBanks_unchanged _).sheetsFollow).trans (choose_unchanged _).sheetsFollow

theorem endFill_follow (e : Entry) : SheetsFollow SameRows s (endFill e s) := by
  unfold endFill
  split
  · exact .refl s
  · rename_i x hx
    split
    · exact follow_setSheet .refl hx ⟨rfl, rfl⟩
    · exact .refl s

theorem raiseWritten_follow : SheetsFollow RowMore s (raiseWritten n s) := by
  have more (x : Sheet) (r : Relief) (st : SheetState) (hk : x.kind = .relief r) :
      RowMore x { x with state := st, kind := .relief { r with written := r.written + 1 } } :=
    ⟨rfl, .inr (by simp [Sheet.written?, Sheet.relief?, hk])⟩
  have kept := (SheetsFollow.refl s).mono (fun _ _ => SameRows.rowMore)
  have same : ∀ x, RowMore x x := fun x => (SameRows.refl x).rowMore
  unfold raiseWritten
  split
  · exact kept
  · rename_i x hx
    split
    · exact kept
    · rename_i r hk
      dsimp only
      split
      · intro m y hy
        rw [sheetAt, (raise_unchanged _ _).sheets] at hy
        exact follow_setSheet same hx (more x r .ready hk) m y hy
      · exact follow_setSheet same hx (more x r x.state hk)

theorem retireHead_follow : SheetsFollow RowMore s (retireHead s) := by
  have before (d) : SheetsFollow SameRows s (judgeBaseMode (count cntDrainWritten (s.setDrain d))) :=
    .of_sheets ((judgeBaseMode_unchanged _).sheets)
  have written (b : Bool) (m : Nat) (u : State) (hu : SheetsFollow SameRows s u) :
      SheetsFollow RowMore s (if b then raiseWritten m u else u) := by
    cases b with
    | false => exact hu.mono (fun _ _ => SameRows.rowMore)
    | true =>
      intro k z hz
      obtain ⟨y, hy, g₂, w₂⟩ := raiseWritten_follow u m k z hz
      obtain ⟨x, hx, g₁, w₁⟩ := hu k y hy
      exact ⟨x, hx, g₂.trans g₁, w₁ ▸ w₂⟩
  unfold retireHead
  split
  · exact (SheetsFollow.refl s).mono (fun _ _ => SameRows.rowMore)
  · rename_i e rest _
    dsimp only
    intro k z hz
    obtain ⟨y, hy, g₂, w₂⟩ := (endFill_follow _ e).trans (testSheetReady_follow _ e.sheet) k z hz
    obtain ⟨x, hx, g₁, w₁⟩ := written _ _ _ (before _) k y hy
    exact ⟨x, hx, g₂.trans g₁, w₂ ▸ w₁⟩

theorem completeWrite_follow (o : InFlight) (tile word : Nat) (codes : CellWord) :
    SheetsFollow RowMore s (completeWrite o tile word codes s) := by
  unfold completeWrite
  dsimp only
  intro k z hz
  obtain ⟨y, hy, g₂, w₂⟩ := afterCompletion_follow _ o k z hz
  have stored := (settleBank_unchanged o (bankOf tile)
    ((setInFlight none s).setMem (storeWord (wordAddress tile word) codes s.mem))).sheets
  split at hy
  · rw [sheetAt, stored] at hy
    exact ⟨y, hy, g₂, .inl w₂⟩
  · obtain ⟨x, hx, g₁, w₁⟩ := retireHead_follow _ k y hy
    rw [sheetAt, stored] at hx
    exact ⟨x, hx, g₂.trans g₁, w₂ ▸ w₁⟩

theorem completeRead_follow (o : InFlight) (tile word : Nat) (owner : ReadOwner) (upset : StoredBits) :
    SheetsFollow SameRows s (completeRead o tile word owner upset s) := by
  unfold completeRead
  dsimp only
  refine SheetsFollow.trans (.of_sheets ?_) (afterCompletion_follow _ o)
  split
  · exact (settleBank_unchanged _ _ _).sheets.trans (noteFinding_unchanged _ _).sheets
  · exact (handWord_unchanged _ _ _ _).sheets.trans
      ((settleBank_unchanged _ _ _).sheets.trans (noteFinding_unchanged _ _).sheets)

set_option Elab.async false in
theorem sheetAt_powerOn : sheetAt (powerOn s) n = none := by
  simp only [sheetAt, powerOn, State.reset, Vector.getElem?_replicate]
  split <;> rfl

theorem completeOpen_follow (o : InFlight) (b : Fin 8) (row : Nat) : SheetsFollow SameRows s (completeOpen o b row s) := by
  unfold completeOpen
  dsimp only
  refine SheetsFollow.trans ?_ (afterCompletion_follow _ o)
  exact (((setInFlight_unchanged _ s).trans (setBank_unchanged _ _ _)).trans (settleBank_unchanged _ _ _)).sheetsFollow

theorem completeClose_follow (o : InFlight) (b : Fin 8) : SheetsFollow SameRows s (completeClose o b s) := by
  unfold completeClose
  refine SheetsFollow.trans ?_ (afterCompletion_follow _ o)
  exact ((setInFlight_unchanged _ s).trans (setBank_unchanged _ _ _)).sheetsFollow

theorem completeRefresh_follow (o : InFlight) : SheetsFollow SameRows s (completeRefresh o s) := by
  unfold completeRefresh
  dsimp only
  refine SheetsFollow.trans ?_ (afterCompletion_follow _ o)
  exact ((setInFlight_unchanged _ s).trans (setPort_unchanged _ _)).sheetsFollow

end SheetOperations

/-! ### What each command keeps of the sheets -/

section SheetCommands

variable {s t : State} {c : Instr}

theorem takeRequest_follow {q : Request} {act : State → State} (ha : ∀ s, SheetsFollow SameRows s (act s))
    (h : takeRequest q act s = .next t) : SheetsFollow SameRows s t := by
  obtain rfl | ⟨rest, -, rfl⟩ := takeRequest_next h
  · exact .refl _
  · exact ha (s.setCellQueue rest)

theorem takeRecord_follow {p : Port} {act : State → State} (ha : ∀ s, SheetsFollow SameRows s (act s))
    (h : takeRecord p act s = .next t) : SheetsFollow SameRows s t := by
  obtain rfl | rfl | rfl := takeRecord_next h
  · exact .refl _
  · exact ha (afterGoodRecord p s)
  · exact .of_sheets rfl

/-- Two commands apart, each sheet that a command leaves open was open before, with the same geometry and the same rows
written (R3, R7). -/
theorem exec_sheetsFollow (h : exec c s = .next t) (hw : c ≠ .writeComplete)
    (ho : ∀ tag n k w h p q b hr po f, c ≠ .sheetOpen tag n k w h p q b hr po f) : SheetsFollow SameRows s t := by
  cases c with
  | sheetOpen => exact absurd rfl (ho _ _ _ _ _ _ _ _ _ _ _)
  | writeComplete => exact absurd rfl hw
  | sheetReady => exact takeRequest_follow (fun s => takeSheetReady_follow s _ _) h
  | sheetClose => exact takeRequest_follow (fun s => takeSheetClose_follow s _ _) h
  | ingestFlush =>
    exact takeRequest_follow (fun s => (flushIngest_follow s).trans (answerRequest_unchanged _ _ _).sheetsFollow) h
  | serviceReset =>
    exact takeRequest_follow (fun s => ((serviceReset_follow s).trans (answerRequest_unchanged _ _ _).sheetsFollow).trans
      (choose_unchanged _).sheetsFollow) h
  | samples => exact takeRecord_follow (fun s => takeSamples_follow s _) h
  | sweepClose => exact takeRecord_follow (fun s => takeSweepClose_follow s _) h
  | lossOfCarrier p =>
    obtain rfl | rfl := whileRunning_next h
    · exact .refl _
    · exact takeLoss_follow s p
  | badRecord p =>
    obtain rfl | ⟨-, rfl⟩ := takeEvent_next h
    · exact .refl _
    · exact takeBad_follow s p
  | powerOnReset =>
    intro n y hy
    rw [← Host.Outcome.next.inj h] at hy
    rw [sheetAt_powerOn] at hy
    cases hy
  | openComplete =>
    obtain rfl | ⟨o, b, row, -, -, rfl⟩ := execOpenComplete_next h
    · exact .refl _
    · exact completeOpen_follow s o b row
  | closeComplete =>
    obtain rfl | ⟨o, b, -, -, rfl⟩ := execCloseComplete_next h
    · exact .refl _
    · exact completeClose_follow s o b
  | refreshComplete =>
    obtain rfl | ⟨o, -, -, rfl⟩ := execRefreshComplete_next h
    · exact .refl _
    · exact completeRefresh_follow s o
  | readComplete upset =>
    obtain rfl | ⟨o, tile, word, owner, -, -, rfl⟩ := execReadComplete_next h
    · exact .refl _
    · exact completeRead_follow s o tile word owner upset
  | _ => exact (exec_unchanged h).sheetsFollow (by simp [commandParts])

/-- The sheets follow themselves at every command but a WRITE completion and a SHEET_OPEN. -/
theorem exec_sheetsFollow_or (h : exec c s = .next t) : c = .writeComplete
    ∨ (∃ tag n k w h p q b hr po f, c = .sheetOpen tag n k w h p q b hr po f) ∨ SheetsFollow SameRows s t := by
  by_cases hw : c = .writeComplete
  · exact .inl hw
  by_cases ho : ∃ tag n k w h p q b hr po f, c = .sheetOpen tag n k w h p q b hr po f
  · exact .inr (.inl ho)
  · exact .inr (.inr (exec_sheetsFollow h hw fun tag n k w h p q b hr po f e => ho ⟨tag, n, k, w, h, p, q, b, hr, po, f, e⟩))

theorem writeComplete_follow (h : exec .writeComplete s = .next t) : SheetsFollow RowMore s t := by
  obtain rfl | ⟨o, tile, word, codes, -, -, rfl⟩ := execWriteComplete_next h
  · exact (SheetsFollow.refl _).mono (fun _ _ => SameRows.rowMore)
  · exact completeWrite_follow s o tile word codes

/-- A SHEET_OPEN changes no sheet, or makes the one it asks for, FREE before, with an extent that overlaps no other's
(R10 to R13). -/
theorem sheetOpen_sheets {tag : Tag} {n k w h p q b hr po f : Nat}
    (ho : exec (.sheetOpen tag n k w h p q b hr po f) s = .next t) :
    t.sheets = s.sheets ∨ ∃ x, sheetAt s n = none ∧ (∀ m, sheetAt t m = if m = n then some x else sheetAt s m)
      ∧ ¬ ExtentTaken s x.geom.base (extentOf x.geom) := by
  obtain rfl | ⟨rest, -, rfl⟩ := takeRequest_next ho
  · exact .inl rfl
  · unfold takeSheetOpen
    split
    · exact .inl (answerRequest_unchanged _ _ _).sheets
    · rename_i x passed
      right
      have free : sheetAt s n = none ∧ n ≤ 15 ∧ ¬ ExtentTaken s x.geom.base (extentOf x.geom) := by
        unfold checkOpen at passed
        split at passed
        · cases passed
        · split at passed
          · cases passed
          · rename_i inside inUse
            split at passed
            · cases passed
            · dsimp only at passed
              split at passed
              · cases passed
              · split at passed
                · cases passed
                · rename_i apart
                  split at passed
                  · cases passed
                  · cases passed
                    exact ⟨Option.not_isSome_iff_eq_none.1 inUse, Nat.le_of_not_lt inside,
                      mt overlapsAny_iff.2 apart⟩
      refine ⟨x, free.1, fun m => ?_, free.2.2⟩
      have opened : (openSheet n x (s.setCellQueue rest)).sheets = (setSheet n (some x) s).sheets := by
        unfold openSheet
        dsimp only
        split <;> rfl
      rw [sheetAt, (answerRequest_unchanged _ _ _).sheets, opened]
      exact (sheetAt_setSheet n m (some x) s).trans (if_congr (by omega) rfl rfl)

end SheetCommands

/-! ### Extents apart (R11) -/

section Extents

variable {s t : State} {c : Instr}

set_option Elab.async false in
/-- Sheets that follow sheets with their geometry kept have their extents apart as they had. -/
theorem ExtentsApart.of_follow {R : Sheet → Sheet → Prop} (hs : ExtentsApart s) (h : SheetsFollow R s t)
    (hR : ∀ x y, R x y → y.geom = x.geom) : ExtentsApart t := by
  intro m n y z hmn hy hz
  obtain ⟨x, hx, hxy⟩ := h m y hy
  obtain ⟨x', hx', hxz⟩ := h n z hz
  rw [hR x y hxy, hR x' z hxz]
  exact hs m n x x' hmn hx hx'

/-- A sheet opened where its extent overlaps none leaves the extents apart. -/
theorem ExtentsApart.open {n : Nat} {x : Sheet} (hs : ExtentsApart s)
    (ht : ∀ m, sheetAt t m = if m = n then some x else sheetAt s m)
    (free : ¬ ExtentTaken s x.geom.base (extentOf x.geom)) : ExtentsApart t := by
  have fresh (m : Nat) (y : Sheet) (hy : sheetAt s m = some y) (tile : Nat) :
      ¬ ((x.geom.base ≤ tile ∧ tile < x.geom.base + extentOf x.geom)
        ∧ (y.geom.base ≤ tile ∧ tile < y.geom.base + extentOf y.geom)) := by
    intro both
    exact free ⟨m, y, hy, by omega, by omega⟩
  intro m m' y y' hmm hy hy'
  rw [ht] at hy hy'
  rintro ⟨tile, inY, inY'⟩
  split at hy
  · cases hy
    rw [if_neg (by omega)] at hy'
    exact fresh m' y' hy' tile ⟨inY, inY'⟩
  · split at hy'
    · cases hy'
      exact fresh m y hy tile ⟨inY', inY⟩
    · exact hs m m' y y' hmm hy hy' ⟨tile, inY, inY'⟩

theorem exec_keeps_extents_apart (hs : ExtentsApart s) (h : exec c s = .next t) : ExtentsApart t := by
  obtain rfl | ⟨_, _, _, _, _, _, _, _, _, _, _, rfl⟩ | follow := exec_sheetsFollow_or h
  · exact hs.of_follow (writeComplete_follow h) (fun _ _ h => h.1)
  · obtain same | ⟨x, -, ht, free⟩ := sheetOpen_sheets h
    · exact hs.of_follow (.of_sheets same) (fun _ _ h => h.1)
    · exact hs.open ht free
  · exact hs.of_follow follow (fun _ _ h => h.1)

end Extents

/-- Settles O56: each command but SHEET_OPEN leaves open only sheets that were open with the same geometry, and SHEET_OPEN
opens where nothing overlaps. -/
theorem everyStepKeepsExtentsApart : Obligations.EveryStepKeepsExtentsApart := fun _ _ hs h =>
  step_keeps (P := ExtentsApart) (fun _ _ hs => hs) (fun _ _ _ hs h => exec_keeps_extents_apart hs h) hs h

end Sys2Proof.Machine
end

section
/-! SUPPORT. The time base under the events that it raises, and the law of what changes by its events alone. -/

namespace Sys2Proof.Machine

/- A proof is elaborated in a task of its own. `set_option Elab.async false in` before a theorem makes the compile wait there
for the proofs before it, so that only a few are under way at a time; the linters, which would keep every proof's syntax
tree, are off, so that the compile of the whole text stays within its memory. -/
set_option linter.all false

open Sys2Proof

/-! ### The time base at each event (R49, R52, R55) -/

section TimeBaseEvents

variable (s : State)

@[simp] theorem takeMark_time : (takeMark s).time = timeAtMark s.settings s.time := by
  unfold takeMark
  dsimp only
  rw [(countBy_unchanged _ _ _).time, (noticeAtMark_unchanged _).time, (holdChunkAtMark_unchanged _).time,
    State.setSched_time, (mapSpindles_unchanged _ _ _).time, (lateAtMark_unchanged _).time, (sendMarks_unchanged _).time,
    State.setTime_time]

@[simp] theorem takeUrgency_time : (takeUrgency s).time = { s.time with urgencyPassed := true, urgencyDue := false } := by
  unfold takeUrgency
  rw [(judgeDeadline_unchanged _).time, (markUrgent_unchanged _).time, State.setTime_time]

@[simp] theorem takeAlarm_time (a : Fin 2) :
    (takeAlarm a s).time = { s.time with alarmDue := s.time.alarmDue.set a false } := by
  unfold takeAlarm
  rw [(fireAlarm_unchanged _ _).time, State.setTime_time]

/-- What the events outstanding leave of the time base: none of a mark, and its frame number, P and U as a mark has set
them where one was due. -/
structure EventsTaken (st : Settings) (t t' : TimeBase) : Prop where
  ticks : t'.ticks = t.ticks
  machineTime : t'.machineTime = t.machineTime
  markDue : t'.markDue = false
  frame : t'.frame = if t.markDue then t.frame + 1 else t.frame
  period : t'.period = if t.markDue then st.framePeriod else t.period
  window : t'.window = if t.markDue then min st.urgentWindow st.framePeriod else t.window

/-- The fields of the time base that alarm firings and the urgency point leave. -/
def SameFrame (t t' : TimeBase) : Prop :=
  t'.ticks = t.ticks ∧ t'.machineTime = t.machineTime ∧ t'.markDue = t.markDue ∧ t'.frame = t.frame
    ∧ t'.period = t.period ∧ t'.window = t.window

theorem takeIf_time (due : Bool) (act : State → State) :
    (takeIf due act s).time = if due then (act s).time else s.time := by
  cases due <;> rfl

theorem takeIf_alarm_sameFrame (due : Bool) (a : Fin 2) : SameFrame s.time (takeIf due (takeAlarm a) s).time := by
  rw [takeIf_time]
  split
  · rw [takeAlarm_time]
    exact ⟨rfl, rfl, rfl, rfl, rfl, rfl⟩
  · exact ⟨rfl, rfl, rfl, rfl, rfl, rfl⟩

theorem takeIf_urgency_sameFrame (due : Bool) : SameFrame s.time (takeIf due takeUrgency s).time := by
  rw [takeIf_time]
  split
  · rw [takeUrgency_time]
    exact ⟨rfl, rfl, rfl, rfl, rfl, rfl⟩
  · exact ⟨rfl, rfl, rfl, rfl, rfl, rfl⟩

theorem takeIf_mark_time : EventsTaken s.settings s.time (takeIf s.time.markDue takeMark s).time := by
  rw [takeIf_time]
  cases due : s.time.markDue
  · exact ⟨rfl, rfl, due, by simp [due], by simp [due], by simp [due]⟩
  · rw [if_pos rfl, takeMark_time]
    exact ⟨rfl, rfl, rfl, by simp [due, timeAtMark], by simp [due, timeAtMark], by simp [due, timeAtMark]⟩

/-- The mark that is outstanding has been taken, the alarm firings before it and the urgency point and the expiries after
it (log 2). -/
theorem takeOutstanding_time : EventsTaken s.settings s.time (takeOutstanding s).time := by
  unfold takeOutstanding
  dsimp only
  set u₀ := takeIf s.time.alarmDue[(0 : Fin 2)] (takeAlarm 0) s with h₀
  set u₁ := takeIf u₀.time.alarmDue[(1 : Fin 2)] (takeAlarm 1) u₀ with h₁
  set u₂ := takeIf u₁.time.markDue takeMark u₁ with h₂
  set u₃ := takeIf u₂.time.urgencyDue takeUrgency u₂ with h₃
  set u₄ := takeIf (refreshExpired u₃) takeRefreshExpiry u₃ with h₄
  have alarms : SameFrame s.time u₁.time := by
    obtain ⟨a, b, c, d, e, f⟩ := takeIf_alarm_sameFrame s s.time.alarmDue[(0 : Fin 2)] 0
    obtain ⟨a', b', c', d', e', f'⟩ := takeIf_alarm_sameFrame u₀ u₀.time.alarmDue[(1 : Fin 2)] 1
    exact ⟨a'.trans a, b'.trans b, c'.trans c, d'.trans d, e'.trans e, f'.trans f⟩
  have settings : u₁.settings = s.settings :=
    (takeIf_unchanged _ (takeAlarm_unchanged · 1) u₀).settings.trans
      (takeIf_unchanged _ (takeAlarm_unchanged · 0) s).settings
  have marked : EventsTaken u₁.settings u₁.time u₂.time := takeIf_mark_time u₁
  have point : SameFrame u₂.time u₃.time := takeIf_urgency_sameFrame u₂ u₂.time.urgencyDue
  have expiries : (allBanks.foldl (fun s b => takeIf (timerExpired s b) (takeTimerExpiry b) s) u₄).time = u₃.time :=
    (Unchanged.foldl _ (fun s b => takeIf_unchanged (timerExpired s b) (takeTimerExpiry_unchanged · b) s) _ u₄).time.trans
      (takeIf_unchanged _ takeRefreshExpiry_unchanged u₃).time
  rw [expiries]
  obtain ⟨a, b, c, d, e, f⟩ := alarms
  obtain ⟨a', b', c', d', e', f'⟩ := point
  exact ⟨a'.trans (marked.ticks.trans a), b'.trans (marked.machineTime.trans b), c'.trans marked.markDue,
    by rw [d', marked.frame, c, d], by rw [e', marked.period, c, e, settings], by rw [f', marked.window, c, f, settings]⟩

end TimeBaseEvents

/-! ### The frame number (R49) -/

section FrameNumber

variable {s t : State} {c : Instr}

theorem frame_of_eventsTaken {st : Settings} {t t' : TimeBase} (h : EventsTaken st t t') :
    t'.frame = t.frame ∨ t'.frame = t.frame + 1 := by
  rw [h.frame]
  split
  · exact .inr rfl
  · exact .inl rfl

theorem takeTick_time (s : State) : (takeTick s).time = tickTime (takeOutstanding s).time := rfl

theorem takeTimeSet_time (q : Request) (v : MachineTime) (s : State) :
    (takeTimeSet q v s).time = loadTime v (takeOutstanding s).time := by
  unfold takeTimeSet
  rw [(answerRequest_unchanged _ _ _).time, takeLoad_time]

set_option Elab.async false in
theorem tickTime_frame (t : TimeBase) : (tickTime t).frame = t.frame := rfl

theorem loadTime_frame (v : MachineTime) (t : TimeBase) : (loadTime v t).frame = t.frame := rfl

theorem takeTick_frame (s : State) :
    (takeTick s).time.frame = s.time.frame ∨ (takeTick s).time.frame = s.time.frame + 1 := by
  rw [takeTick_time, tickTime_frame]
  exact frame_of_eventsTaken (takeOutstanding_time s)

theorem takeTimeSet_frame (q : Request) (v : MachineTime) (s : State) :
    (takeTimeSet q v s).time.frame = s.time.frame ∨ (takeTimeSet q v s).time.frame = s.time.frame + 1 := by
  rw [takeTimeSet_time, loadTime_frame]
  exact frame_of_eventsTaken (takeOutstanding_time s)

theorem takeAlarmSet_frame (q : Request) (unit : Nat) (compare mask : MachineTime) (enable : Nat) (s : State) :
    (takeAlarmSet q unit compare mask enable s).time.frame = s.time.frame := by
  unfold takeAlarmSet
  split
  · split
    · rw [(answerRequest_unchanged _ _ _).time]
      rfl
    · rw [(answerRequest_unchanged _ _ _).time]
  · rw [(answerRequest_unchanged _ _ _).time]

/-- The frame number rises by one at a mark, which FRAME_MARK takes, or a TICK or a TIME_SET that finds it outstanding, and
stays at every other command but power-on reset (R49, R59). -/
theorem exec_frame (h : exec c s = .next t) (hp : c ≠ .powerOnReset) :
    t.time.frame = s.time.frame
      ∨ (t.time.frame = s.time.frame + 1 ∧ (c = .frameMark ∨ c = .tick ∨ ∃ tag v, c = .timeSet tag v)) := by
  cases c with
  | powerOnReset => exact absurd rfl hp
  | timeSet tag v =>
    obtain rfl | ⟨rest, -, rfl⟩ := takeRequest_next h
    · exact .inl rfl
    · exact (takeTimeSet_frame ..).imp_right (fun e => ⟨e, .inr (.inr ⟨tag, v, rfl⟩)⟩)
  | tick =>
    obtain rfl | rfl := whileRunning_next h
    · exact .inl rfl
    · exact (takeTick_frame s).imp_right (fun e => ⟨e, .inr (.inl rfl)⟩)
  | frameMark =>
    obtain rfl | ⟨-, rfl⟩ := takeEvent_next h
    · exact .inl rfl
    · rw [takeMark_time]
      exact .inr ⟨rfl, .inl rfl⟩
  | alarmSet tag unit compare mask enable =>
    obtain rfl | ⟨rest, -, rfl⟩ := takeRequest_next h
    · exact .inl rfl
    · exact .inl (takeAlarmSet_frame ..)
  | urgencyPoint =>
    obtain rfl | ⟨-, rfl⟩ := takeEvent_next h
    · exact .inl rfl
    · rw [takeUrgency_time]
      exact .inl rfl
  | alarmFire a =>
    obtain rfl | ⟨-, rfl⟩ := takeEvent_next h
    · exact .inl rfl
    · rw [takeAlarm_time]
      exact .inl rfl
  | _ => exact .inl (congrArg TimeBase.frame ((exec_unchanged h).time (by simp [commandParts])))

end FrameNumber

/-! ### Rows written (R7, R43) -/

section RowsWritten

variable {s t : State} {c : Instr} {n : Nat} {x y : Sheet}

theorem relief?_of_kind {r : Relief} (h : x.kind = .relief r) : x.relief? = some r := by
  simp [Sheet.relief?, h]

/-- A sheet that stays open follows itself. -/
theorem exec_rowMore (h : exec c s = .next t) (hx : sheetAt s n = some x) (hy : sheetAt t n = some y) :
    RowMore x y ∧ (c ≠ .writeComplete → SameRows x y) := by
  have same {x y : Sheet} (e : SameRows x y) : RowMore x y ∧ (c ≠ .writeComplete → SameRows x y) :=
    ⟨e.rowMore, fun _ => e⟩
  obtain rfl | ⟨tag, m, _, _, _, _, _, _, _, _, _, rfl⟩ | follow := exec_sheetsFollow_or h
  · obtain ⟨x', hx', more⟩ := writeComplete_follow h n y hy
    rw [hx] at hx'
    cases hx'
    exact ⟨more, fun e => absurd rfl e⟩
  · obtain kept | ⟨z, free, ht, -⟩ := sheetOpen_sheets h
    · rw [sheetAt, kept] at hy
      exact same (Option.some.inj (hx.symm.trans hy) ▸ .refl x)
    · rw [ht] at hy
      split at hy
      · rename_i here
        rw [here, free] at hx
        cases hx
      · exact same (Option.some.inj (hx.symm.trans hy) ▸ .refl x)
  · obtain ⟨x', hx', kept⟩ := follow n y hy
    rw [hx] at hx'
    cases hx'
    exact same kept

end RowsWritten

/-- Settles O58: the sheets follow themselves, the frame number rises at a mark, and the memory's data at a WRITE. -/
theorem rowsFramesAndMemoryChangeByTheirEventsAlone : Obligations.RowsFramesAndMemoryChangeByTheirEventsAlone := by
  intro c s t h
  refine ⟨?rows, ?frame, ?quietFrame, ?cells⟩
  case rows =>
    intro n x y hx hy
    obtain ⟨⟨geom, more⟩, same⟩ := exec_rowMore h hx hy
    refine ⟨geom, fun r r' hr hr' => ?_⟩
    have written : x.written? = some r.written ∧ y.written? = some r'.written := by
      simp [Sheet.written?, relief?_of_kind hr, relief?_of_kind hr']
    rw [written.1, written.2] at more
    refine ⟨by simpa using more, fun other => ?_⟩
    have kept := (same other).2
    rw [written.1, written.2] at kept
    exact Option.some.inj kept
  case frame => exact fun hp => (exec_frame h hp).imp_right And.left
  case quietFrame =>
    intro hm ht hs hp
    obtain e | ⟨-, rfl | rfl | ⟨tag, v, rfl⟩⟩ := exec_frame h hp
    · exact e
    · exact absurd rfl hm
    · exact absurd rfl ht
    · exact absurd rfl (hs tag v)
  case cells =>
    intro hw hp
    obtain e | ⟨a, upset, -, e⟩ | ⟨a, w, rfl, -⟩ | ⟨rfl, -⟩ := exec_mem h
    · rw [e]
    · rw [e]
      rfl
    · exact absurd rfl hw
    · exact absurd rfl hp

end Sys2Proof.Machine
end

section
/-! SUPPORT. What sending leaves of every port, and the statements about the step, the resets, arriving requests, alarm
settings, notice acknowledgement and symbols. -/

namespace Sys2Proof.Machine

/- A proof is elaborated in a task of its own. `set_option Elab.async false in` before a theorem makes the compile wait there
for the proofs before it, so that only a few are under way at a time; the linters, which would keep every proof's syntax
tree, are off, so that the compile of the whole text stays within its memory. -/
set_option linter.all false

open Sys2Proof

/-! ### Ports apart -/

section Links

variable {s t : State} {p p' : Port}

theorem linkOf_congr (p : Port) (h : t.links = s.links) : linkOf t p = linkOf s p := by simp [linkOf, h]

theorem portUp_congr (p : Port) (h : t.links = s.links) : portUp t p = portUp s p :=
  congrArg Link.up (linkOf_congr p h)

theorem portIndex_ne (h : p' ≠ p) : portIndex p' ≠ portIndex p := by
  intro e
  have e := congrArg Fin.val e
  cases p' <;> cases p <;> simp [portIndex, Fin.val_inj] at e h
  omega

theorem linkOf_setLink_other (l : Link) (h : p' ≠ p) : linkOf (setLink p l s) p' = linkOf s p' := by
  have hne : (portIndex p).val ≠ (portIndex p').val := fun e => portIndex_ne h (Fin.ext e.symm)
  simp [linkOf, setLink, Vector.getElem_set_ne, hne]

theorem linkOf_send_other (r : OutRecord) (h : p' ≠ p) : linkOf (send p r s) p' = linkOf s p' := by
  unfold send
  split
  · exact linkOf_setLink_other _ h
  · rfl

@[simp] theorem portUp_send (r : OutRecord) : portUp (send p r s) p' = portUp s p' := by
  by_cases h : p' = p
  · subst h
    unfold send
    split
    · simp [portUp]
    · rfl
  · exact congrArg Link.up (linkOf_send_other r h)

/-- What a record made on a port leaves of it, but for the record (R161). -/
theorem linkOf_send_same (r : OutRecord) :
    linkOf (send p r s) p
      = { linkOf s p with toSend := if portUp s p then (linkOf s p).toSend ++ [r] else (linkOf s p).toSend } := by
  unfold send
  split <;> simp [*]

/-- A source that is not urgent makes no record when it is raised (R177). -/
theorem raise_links {src : SourceSet} (h : src &&& urgentSources = 0) : (raise src s).links = s.links := by
  rw [raise_of_not_urgent h]
  simp

end Links

/-! ### The step and the resets -/

/-- Settles O1. -/
theorem stepRunsFrontCommand : Obligations.StepRunsFrontCommand := by
  unfold Obligations.StepRunsFrontCommand
  refine fun s => ⟨fun c rest h => ?_, fun h => ?_⟩ <;> simp [step, h]

/-- While the reset input is asserted only its own two commands act (R174). -/
theorem exec_held {c : Instr} {s : State} (h : s.resetAsserted = true) (hp : c ≠ .powerOnReset)
    (hr : c ≠ .powerOnResetRelease) : exec c s = .next s := by
  cases c with
  | powerOnReset => exact absurd rfl hp
  | powerOnResetRelease => exact absurd rfl hr
  | _ => exact whileRunning_held _ h

/-- Settles O2. -/
theorem powerOnResetGivesItsValuesAndHoldsThePart : Obligations.PowerOnResetGivesItsValuesAndHoldsThePart := by
  unfold Obligations.PowerOnResetGivesItsValuesAndHoldsThePart
  refine ⟨fun s => ⟨powerOn s, rfl, ?_⟩, fun s => ⟨fun h c hp hr => exec_held h hp hr, _, rfl, rfl, ?_⟩⟩
  · simp [powerOn, State.reset, TimeBase.powerOn, Context.powerOn, MemoryPort.powerOn, Settings.default,
      linkOf]
  · intro b hb
    cases b with
    | resetInput => simp at hb
    | _ => rfl

theorem sheetAt_reset (n : Nat) : sheetAt State.reset n = none := by
  simp only [sheetAt, State.reset, Vector.getElem?_replicate]
  split <;> rfl

theorem linkOf_reset (p : Port) : linkOf State.reset p = { up := false, idle := 0, bad := 0, toSend := [] } := by
  simp [linkOf, State.reset]

set_option Elab.async false in
theorem slots_reset (i : Fin 2) : State.reset.ingest.slots[i]'i.2 = .free := by
  simp [State.reset]

theorem deviceBounds_reset : DeviceBounds State.reset := by
  refine ⟨fun n => by simp [State.reset], by simp [QueueBounded, State.reset], by simp [RequestsBounded, State.reset],
    by simp [OwedBounded, State.reset, MemoryPort.powerOn], ?_, fun p => ?_, ?_⟩
  · rw [OneFilling, slots_reset]
    exact fun h => nomatch h.1
  · simp [linkOf_reset]
  · simp [TimeLawful, State.reset, TimeBase.powerOn, Settings.default]

theorem rowsAndJobsLawful_reset : RowsAndJobsLawful State.reset := by
  refine ⟨fun n x r h => ?_, fun i w h => ?_, deviceBounds_reset.2.2.2.2.1, ?_, ?_⟩
  · rw [sheetAt_reset] at h
    cases h
  · rw [slots_reset] at h
    cases h
  · simp [JobsBounded, State.reset]
  · simp [DrainWorkLive, State.reset]

/-- Settles O59. -/
theorem resetMeetsTheLaws : Obligations.ResetMeetsTheLaws := by
  unfold Obligations.ResetMeetsTheLaws
  refine ⟨rfl, fun m n x y _ h => ?_, deviceBounds_reset, rowsAndJobsLawful_reset, ?_⟩
  · rw [sheetAt_reset] at h
    cases h
  · simp [DeadlineLawful, State.reset]

/-! ### Arriving requests, alarm settings and acknowledgements -/

/-- Settles O3. -/
theorem arrivingRequestJoinsTheQueueOrMeetsBusy : Obligations.ArrivingRequestJoinsTheQueueOrMeetsBusy := by
  unfold Obligations.ArrivingRequestJoinsTheQueueOrMeetsBusy
  intro s tag r hl
  have good := afterGoodRecord_unchanged .c s
  refine ⟨takeArrival ⟨tag, r⟩ (afterGoodRecord .c s), takeRecord_listening hl, ?_, ?_, ?_⟩
  · intro h
    rw [takeArrival, good.cellQueue, if_neg (by omega)]
    simp
  · intro h
    rw [takeArrival, good.cellQueue, if_pos h]
    exact ⟨((answerRequest_unchanged _ _ _).cellQueue).trans good.cellQueue, rfl⟩
  · exact (good.mono (by simp)).trans ((takeArrival_unchanged _ _).mono (by simp))

/-- Settles O42. -/
theorem alarmSetReplacesTheUnitWithoutFiring : Obligations.AlarmSetReplacesTheUnitWithoutFiring := by
  unfold Obligations.AlarmSetReplacesTheUnitWithoutFiring
  intro s tag unit compare mask enable rest hq
  refine ⟨_, takeRequest_front hq, fun bad => ?_, ?_⟩
  · unfold takeAlarmSet
    split
    · rename_i e he
      have henable : enable < 2 := by
        unfold enableOf at he
        split at he <;> simp_all
      rw [dif_neg (by omega)]
      exact refused_answerRequest _
    · exact refused_answerRequest _
  · rintro a rfl henable
    have he : enableOf enable = some (enable == 1) := by
      obtain rfl | rfl : enable = 0 ∨ enable = 1 := by omega
      · rfl
      · rfl
    unfold takeAlarmSet
    rw [he]
    dsimp only
    rw [dif_pos a.isLt]
    refine ⟨⟨newAlarm s.time.machineTime compare mask (enable == 1), ?_, rfl, rfl, by simp [newAlarm, judgeAlarm], ?_⟩, ?_⟩
    · rw [(answerRequest_unchanged _ _ _).time]
      rfl
    · simp [newAlarm, judgeAlarm, alarmMatches]
    · exact answered_answerRequest _ (setTime_unchanged _ _) rfl rfl

section SourceSets

variable {bits : BitVec 16}

theorem sourcesOf_outside {k : Nat} (lo : 10 ≤ k) (h : bits.getLsbD k = true) : sourcesOf bits = none := by
  unfold sourcesOf
  rw [if_neg]
  intro e
  have := congrArg (fun x : BitVec 16 => x.getLsbD (k - 10)) e
  simp [show 10 + (k - 10) = k by omega, h] at this

theorem sourcesOf_inside (h : ∀ k, 10 ≤ k → k < 16 → bits.getLsbD k = false) :
    sourcesOf bits = some (bits.setWidth 10) := by
  unfold sourcesOf
  rw [if_pos]
  apply BitVec.eq_of_getLsbD_eq
  intro i hi
  by_cases inside : 10 + i < 16
  · simpa using h (10 + i) (by omega) inside
  · simpa using BitVec.getLsbD_of_ge bits (10 + i) (by omega)

end SourceSets

/-- Settles O43. -/
theorem noticeAckAndCountersClear : Obligations.NoticeAckAndCountersClear := by
  unfold Obligations.NoticeAckAndCountersClear
  refine fun s tag rest => ⟨fun bits hq => ⟨_, takeRequest_front hq, ?_, fun named => ?_⟩, fun hq =>
    ⟨_, takeRequest_front (act := fun s => answerRequest ⟨tag, .countersClear⟩ .done (s.setCounters (.replicate 28 0))) hq, ?_,
      answered_answerRequest _ (setCounters_unchanged _ _) rfl rfl⟩⟩
  · rintro ⟨k, lo, -, hk⟩
    rw [takeNoticeAck, sourcesOf_outside lo hk]
    exact refused_answerRequest _
  · rw [takeNoticeAck, sourcesOf_inside named]
    dsimp only
    refine ⟨fun k hk => ?_, ?_, answered_answerRequest _ (setNotices_unchanged _ _) rfl rfl⟩
    · rw [(answerRequest_unchanged _ _ _).notices]
      simp [hk]
    · rw [(answerRequest_unchanged _ _ _).notices]
      simp
  · intro k
    rw [(answerRequest_unchanged _ _ _).counters]
    simp

/-! ### Symbols (R160) -/

section Symbols

variable {s : State} {p : Port}

theorem takeRecord_down (act : State → State) (hr : s.resetAsserted = false) (h : portUp s p = false) :
    takeRecord p act s = .next (setLink p { linkOf s p with idle := 0 } s) := by
  simp [takeRecord, whileRunning, hr, h]

set_option Elab.async false in
theorem takeIdle_up (h : portUp s p = true) : takeIdle p s = s := if_pos h

theorem takeOther_up (h : portUp s p = true) : takeOther p s = s := if_pos h

theorem takeIdle_below (h : portUp s p = false) (n : (linkOf s p).idle + 1 < 64) :
    takeIdle p s = setLink p { linkOf s p with idle := (linkOf s p).idle + 1 } s := by
  unfold portUp at h
  simp [takeIdle, h, Nat.not_le.mpr n]

theorem takeIdle_at (h : portUp s p = false) (n : 64 ≤ (linkOf s p).idle + 1) :
    takeIdle p s = raise srcLinkChange (setLink p { linkOf s p with up := true, idle := 0, bad := 0 } s) := by
  unfold portUp at h
  simp [takeIdle, h, n]

theorem takeOther_down (h : portUp s p = false) : takeOther p s = setLink p { linkOf s p with idle := 0 } s := by
  unfold portUp at h
  simp [takeOther, h]

theorem takeLoss_down (h : portUp s p = false) : takeLoss p s = setLink p { linkOf s p with idle := 0 } s := by
  unfold portUp at h
  simp [takeLoss, h]

theorem raise_linkChange (s : State) :
    raise srcLinkChange s = s.setNotices { s.notices with pending := s.notices.pending ||| srcLinkChange } :=
  raise_of_not_urgent (by decide)

end Symbols

/-- Settles O45. -/
theorem idleSymbolsBringAPortUp : Obligations.IdleSymbolsBringAPortUp := by
  unfold Obligations.IdleSymbolsBringAPortUp
  refine fun s p hr => ⟨fun hup => ⟨?_, ?_⟩, fun hd => ⟨⟨takeIdle p s, whileRunning_running _ hr, takeIdle_below hd, fun n => ?_⟩,
    ?_, ?_, ?_⟩⟩
  · exact (whileRunning_running _ hr).trans (by rw [takeIdle_up hup])
  · exact (whileRunning_running _ hr).trans (by rw [takeOther_up hup])
  · rw [takeIdle_at hd n, raise_linkChange]
    refine ⟨?_, fun p' h => ?_, by simp [setLink], ?_⟩
    · rw [linkOf_congr _ (State.setNotices_links ..), linkOf_setLink_same]
    · rw [linkOf_congr _ (State.setNotices_links ..), linkOf_setLink_other _ h]
    · exact ((setLink_unchanged _ _ s).mono (by simp)).andThen (setNotices_unchanged _ _)
  · exact (whileRunning_running _ hr).trans (by rw [takeOther_down hd])
  · exact (whileRunning_running _ hr).trans (by rw [takeLoss_down hd])
  · refine ⟨?_, ?_, ?_⟩
    · rintro rfl tag r
      exact takeRecord_down _ hr hd
    · rintro rfl tag
      exact ⟨fun _ _ _ => takeRecord_down _ hr hd, fun _ => takeRecord_down _ hr hd, fun _ => takeRecord_down _ hr hd⟩
    · rintro n rfl tag
      exact ⟨fun _ _ _ => takeRecord_down _ hr hd, fun _ => takeRecord_down _ hr hd⟩

end Sys2Proof.Machine
end

section
/-! SUPPORT. SET (R64, R169): the value that each form of item takes, the answer it gets, and what is stored. -/

namespace Sys2Proof.Machine

/- A proof is elaborated in a task of its own. `set_option Elab.async false in` before a theorem makes the compile wait there
for the proofs before it, so that only a few are under way at a time; the linters, which would keep every proof's syntax
tree, are off, so that the compile of the whole text stays within its memory. -/
set_option linter.all false

open Sys2Proof

/-! ### Forms of value -/

theorem clamp_eq_iff {lo hi n : Int} (h : lo ≤ hi) : clamp lo hi n = n ↔ lo ≤ n ∧ n ≤ hi := by
  unfold clamp
  omega

theorem le_clamp {lo hi n : Int} : lo ≤ clamp lo hi n := le_max_left ..

section Answers

variable {s : State} {q : Request} {rest : List Request} {α : Type} {fit : Int → Int} {n lo hi : Int} {v : Value}
  {store : Int → α} {put : α → State → State}

/-- A number is stored as fitted, and the answer names the fitted number where it differs (R169). -/
theorem answerSet_number :
    answerSet q (setNumber fit (.number n) store) put s
      = answerWith q (if fit n = n then .done else .adjusted) (if fit n = n then .empty else .value (.number (fit n)))
          (put (store (fit n)) s) := by
  by_cases h : fit n = n
  · simp only [setNumber, h, if_true]
    rfl
  · simp only [setNumber, h, if_false]
    rfl

theorem answerSet_clamped (h : lo ≤ hi) :
    answerSet q (setNumber (clamp lo hi) (.number n) store) put s
      = answerWith q (numberResult lo hi n) (numberBody lo hi n) (put (store (clamp lo hi n)) s) := by
  rw [answerSet_number]
  simp only [clamp_eq_iff h, numberResult, numberBody]
  rfl

theorem setNumber_other (h : ∀ n, v ≠ .number n) : setNumber fit v store = .refused .badValue := by
  cases v with
  | number n => exact absurd rfl (h n)
  | name x => rfl
  | sources b => rfl

theorem refused_answerSet {o : SetOutcome α} {r : Reason} (h : o = .refused r) :
    Refused q r rest s (answerSet q o put (s.setCellQueue rest)) := by
  rw [h]
  exact refused_answerRequest r

theorem setOnOff_name {store : Bool → α} (b : Bool) :
    setOnOff (.name (if b then .on else .off)) store = .stored (store b) := by
  cases b <;> rfl

theorem setOnOff_other {store : Bool → α} (on : v ≠ .name .on) (off : v ≠ .name .off) :
    setOnOff v store = .refused .badValue := by
  unfold setOnOff
  split
  · exact absurd rfl off
  · exact absurd rfl on
  · rfl

theorem setSheetNumber_number {store : Option Nat → α} {k : Nat} (h : k ≤ 15) :
    setSheetNumber (.number k) store = .stored (store (some k)) := by
  simp [setSheetNumber, h]

theorem setSheetNumber_other {store : Option Nat → α} (hn : v ≠ .name .none) (hk : ¬ ∃ k : Nat, k ≤ 15 ∧ v = .number k) :
    setSheetNumber v store = .refused .badValue := by
  unfold setSheetNumber
  split
  · rename_i n
    rw [if_neg]
    rintro ⟨lo, hi⟩
    exact hk ⟨n.toNat, by omega, congrArg Value.number (Int.toNat_of_nonneg lo).symm⟩
  · exact absurd rfl hn
  · rfl

/-- A set of the ten sources is stored whole (R164). -/
theorem setSources_named {store : SourceSet → α} (x : SourceSet) :
    setSources (.sources (x.setWidth 16)) store = .stored (store x) := by
  have named : sourcesOf (x.setWidth 16) = some x := by
    rw [sourcesOf_inside (fun k lo _ => by simp [BitVec.getLsbD_of_ge x k lo])]
    simp
  simp [setSources, named]

theorem setSources_other {store : SourceSet → α} (h : ∀ x : SourceSet, v ≠ .sources (x.setWidth 16)) :
    setSources v store = .refused .badValue := by
  cases v with
  | number n => rfl
  | name x => rfl
  | sources b =>
    have outside : ∃ k, 10 ≤ k ∧ b.getLsbD k = true := by
      by_contra none_above
      refine h (b.setWidth 10) (congrArg Value.sources (BitVec.eq_of_getLsbD_eq fun i hi => ?_))
      by_cases low : i < 10
      · simp [low, hi]
      · simpa [low] using fun e => none_above ⟨i, by omega, e⟩
    obtain ⟨k, lo, hk⟩ := outside
    simp [setSources, sourcesOf_outside lo hk]

end Answers

/-! ### Global settings -/

section Settings

variable {s : State} {st : Settings} {k : SettingName} {n lo hi : Int} {q : Request} {rest : List Request}

set_option Elab.async false in
theorem settingRange_le (h : settingRange k = some (lo, hi)) : lo ≤ hi := by
  cases k <;> simp [settingRange] at h <;> omega

/-- A number setting with fixed ends stores its number, and the others stay (section 9.4). -/
theorem setSetting_of_range (h : settingRange k = some (lo, hi)) (st : Settings) (n : Int) :
    ∃ store : Int → Settings, setSetting st k (.number n) = setNumber (clamp lo hi) (.number n) store
      ∧ (∀ m, lo ≤ m → getSetting (store m) k = .number m)
      ∧ ∀ m k', k' ≠ k → getSetting (store m) k' = getSetting st k' := by
  have number {m : Int} (hm : 0 ≤ m) : Value.number (m.toNat : Int) = .number m := by rw [Int.toNat_of_nonneg hm]
  cases k with
  | drainLow | chunkCap | noticeEnables | alwaysSend => simp [settingRange] at h
  | _ =>
    simp only [settingRange, Option.some.injEq, Prod.mk.injEq] at h
    obtain ⟨rfl, rfl⟩ := h
    simp only [setSetting]
    refine ⟨_, rfl, ?_, fun m k' hk => ?_⟩
    · intro m hm
      exact number (by omega)
    · cases k' <;> simp [getSetting] at hk ⊢

theorem setSetting_other {v : Value} (h : ∀ n, v ≠ .number n) (hn : k ≠ .noticeEnables) (ha : k ≠ .alwaysSend) :
    setSetting st k v = .refused .badValue := by
  cases k with
  | noticeEnables => exact absurd rfl hn
  | alwaysSend => exact absurd rfl ha
  | _ => exact setNumber_other h

@[simp] theorem storeSettings_settings (x : Settings) (s : State) : (storeSettings k x s).settings = x := by
  unfold storeSettings
  split
  · rw [(judgeBaseMode_unchanged _).settings, State.setSettings_settings]
  · rw [(judgeBaseMode_unchanged _).settings, State.setSettings_settings]
  · rw [State.setSettings_settings]

theorem storeSettings_mark_unchanged (x : Settings) (s : State) :
    Unchanged [.settings, .sched, .counters, .notices] s (storeSettings k x s) := by
  have settings : Unchanged [.settings, .sched, .counters, .notices] s (s.setSettings x) :=
    (setSettings_unchanged x s).mono (by simp)
  unfold storeSettings
  split
  · exact settings.andThen (judgeBaseMode_sends_nothing _)
  · exact settings.andThen (judgeBaseMode_sends_nothing _)
  · exact settings

theorem storeSettings_unchanged (hh : k ≠ .drainHigh) (hl : k ≠ .drainLow) (x : Settings) (s : State) :
    Unchanged [.settings] s (storeSettings k x s) := by
  cases k with
  | drainHigh => exact absurd rfl hh
  | drainLow => exact absurd rfl hl
  | _ => exact setSettings_unchanged x s

/-- The answer of a SET that has stored its settings. -/
theorem answered_storeSettings {parts : List Block} (r : ReplyResult) (b : ReplyBody) (x : Settings)
    (h : Unchanged parts (s.setCellQueue rest) (storeSettings k x (s.setCellQueue rest))) :
    Answered q r b rest parts s (answerWith q r b (storeSettings k x (s.setCellQueue rest))) := by
  have stored := storeSettings_mark_unchanged (k := k) x (s.setCellQueue rest)
  exact answered_answerWith r b h (stored.links.trans rfl) (stored.cellQueue.trans rfl)

theorem exec_set_setting {tag : Tag} {v : Value} (hq : AtFront ⟨tag, .set (.setting k) 0 v⟩ rest s) :
    exec (.set tag (.setting k) 0 v) s
      = .next (answerSet ⟨tag, .set (.setting k) 0 v⟩ (setSetting s.settings k v) (storeSettings k)
          (s.setCellQueue rest)) :=
  takeRequest_front hq

end Settings

/-- Settles O5. -/
theorem setStoresAGlobalNumber : Obligations.SetStoresAGlobalNumber := by
  unfold Obligations.SetStoresAGlobalNumber
  intro s tag k n lo hi rest hk hq
  obtain ⟨store, hset, stored, kept⟩ := setSetting_of_range hk s.settings n
  refine ⟨_, exec_set_setting hq, ?_⟩
  rw [hset, answerSet_clamped (settingRange_le hk)]
  refine ⟨?_, fun k' hk' => ?_, answered_storeSettings _ _ _ ?_⟩
  · rw [(answerWith_unchanged _ _ _ _).settings, storeSettings_settings]
    exact stored _ le_clamp
  · rw [(answerWith_unchanged _ _ _ _).settings, storeSettings_settings]
    exact kept _ k' hk'
  · split
    · exact storeSettings_mark_unchanged _ _
    · rename_i hh
      refine storeSettings_unchanged hh ?_ _ _
      rintro rfl
      cases hk

/-- Settles O6. -/
theorem setFitsTheSettingsOfTheirOwnForm : Obligations.SetFitsTheSettingsOfTheirOwnForm := by
  unfold Obligations.SetFitsTheSettingsOfTheirOwnForm
  refine ⟨⟨fun s tag n rest marks hq => ⟨_, exec_set_setting hq, ?_⟩, fun s tag n rest hq => ?_⟩, fun s tag v rest =>
    ⟨fun hq => ⟨_, exec_set_setting hq, ?_, fun other => ?_⟩, fun hq => ⟨_, exec_set_setting hq, ?_, fun on off => ?_⟩⟩⟩
  · rw [setSetting, answerSet_clamped (by omega)]
    refine ⟨?_, answered_storeSettings _ _ _ (storeSettings_mark_unchanged _ _)⟩
    rw [(answerWith_unchanged _ _ _ _).settings, storeSettings_settings]
    rfl
  · have lo : 64 ≤ clamp 64 1024 n := le_clamp
    have cap : ((fitChunkCap n).toNat : Int) = fitChunkCap n := Int.toNat_of_nonneg (by unfold fitChunkCap; omega)
    refine ⟨_, (fitChunkCap n).toNat, exec_set_setting hq, ?_⟩
    rw [setSetting, answerSet_number, cap]
    refine ⟨?_, ?_, ?_, ?_, answered_storeSettings _ _ _ (storeSettings_unchanged (by decide) (by decide) _ _)⟩
    · rw [(answerWith_unchanged _ _ _ _).settings, storeSettings_settings]
    · unfold fitChunkCap at cap ⊢
      omega
    · unfold fitChunkCap clamp
      omega
    · unfold fitChunkCap clamp
      omega
  · rintro x rfl
    rw [setSetting, setSources_named]
    refine ⟨?_, answered_storeSettings _ _ _ (storeSettings_unchanged (by decide) (by decide) _ _)⟩
    exact (answerRequest_unchanged _ _ _).settings.trans (storeSettings_settings _ _)
  · exact refused_answerSet (setSources_other other)
  · rintro b rfl
    rw [setSetting, setOnOff_name]
    refine ⟨?_, answered_storeSettings _ _ _ (storeSettings_unchanged (by decide) (by decide) _ _)⟩
    exact (answerRequest_unchanged _ _ _).settings.trans (storeSettings_settings _ _)
  · exact refused_answerSet (setOnOff_other on off)

/-- Settles O7. -/
theorem setOfADrainMarkJudgesTheBaseMode : Obligations.SetOfADrainMarkJudgesTheBaseMode := by
  unfold Obligations.SetOfADrainMarkJudgesTheBaseMode
  intro s tag k n rest hk hq
  obtain ⟨fit, store, hset⟩ : ∃ (fit : Int → Int) (store : Int → Settings),
      setSetting s.settings k (.number n) = setNumber fit (.number n) store := by
    obtain rfl | rfl := hk
    all_goals
      simp only [setSetting]
      exact ⟨_, _, rfl⟩
  have judged (x : Settings) (u : State) : storeSettings k x u = judgeBaseMode (u.setSettings x) := by
    obtain rfl | rfl := hk <;> rfl
  refine ⟨_, exec_set_setting hq, ?_⟩
  rw [hset, answerSet_number, judged]
  set u := (s.setCellQueue rest).setSettings (store (fit n)) with hu
  have same := answerWith_unchanged ⟨tag, .set (.setting k) 0 (.number n)⟩ (if fit n = n then .done else .adjusted)
    (if fit n = n then .empty else .value (.number (fit n))) (judgeBaseMode u)
  rw [same.settings, same.sched, same.notices, same.counters, (judgeBaseMode_unchanged u).settings]
  refine ⟨fun hm high => ?_, fun hm low => ?_, fun hm => ?_⟩
  · rw [judgeBaseMode_enter (s := u) hm high]
    simp [count, countBy, hu]
  · rw [judgeBaseMode_stay_readFirst (s := u) hm low]
    simp [hu]
  · rw [judgeBaseMode_writeFirst (s := u) hm]
    split
    · rename_i low
      exact ⟨⟨fun _ => low, fun _ => rfl⟩, rfl, rfl⟩
    · rename_i high
      exact ⟨⟨fun e => absurd (hm.symm.trans e) (by decide), fun low => absurd low high⟩, rfl, rfl⟩

/-! ### Spindle parameters -/

section Params

variable {s : State} {p : Params} {k : ParamName} {n lo hi : Int} {rest : List Request} {m : Fin 6} {tag : Tag} {v : Value}

set_option Elab.async false in
theorem paramRange_le (h : paramRange k = some (lo, hi)) : lo ≤ hi := by
  cases k <;> simp [paramRange] at h <;> omega

theorem setParam_of_range (h : paramRange k = some (lo, hi)) (p : Params) (n : Int) :
    ∃ store : Int → Params, setParam p k (.number n) = setNumber (clamp lo hi) (.number n) store
      ∧ (∀ m, lo ≤ m → getParam (store m) k = .number m)
      ∧ ∀ m k', k' ≠ k → getParam (store m) k' = getParam p k' := by
  have number {m : Int} (hm : 0 ≤ m) : Value.number (m.toNat : Int) = .number m := by rw [Int.toNat_of_nonneg hm]
  cases k with
  | sheet | mirrorX | mirrorY => simp [paramRange] at h
  | originX | originY =>
    simp only [paramRange, Option.some.injEq, Prod.mk.injEq] at h
    obtain ⟨rfl, rfl⟩ := h
    simp only [setParam]
    refine ⟨_, rfl, fun m _ => rfl, fun m k' hk => ?_⟩
    cases k' <;> simp [getParam] at hk ⊢
  | _ =>
    simp only [paramRange, Option.some.injEq, Prod.mk.injEq] at h
    obtain ⟨rfl, rfl⟩ := h
    simp only [setParam]
    refine ⟨_, rfl, ?_, fun m k' hk => ?_⟩
    · intro m hm
      exact number (by omega)
    · cases k' <;> simp [getParam] at hk ⊢

theorem setParam_other (h : ∀ n, v ≠ .number n) (hs : k ≠ .sheet) (hx : k ≠ .mirrorX) (hy : k ≠ .mirrorY) :
    setParam p k v = .refused .badValue := by
  cases k with
  | sheet => exact absurd rfl hs
  | mirrorX => exact absurd rfl hx
  | mirrorY => exact absurd rfl hy
  | _ => exact setNumber_other h

/-- SHEET takes a sheet number or NONE, a mirror OFF or ON (R64). -/
theorem setParam_of_form (p : Params)
    (hk : (k = .sheet ∧ (v = .name .none ∨ ∃ n : Nat, n ≤ 15 ∧ v = .number n))
      ∨ ((k = .mirrorX ∨ k = .mirrorY) ∧ (v = .name .on ∨ v = .name .off))) :
    ∃ x, setParam p k v = .stored x ∧ getParam x k = v ∧ ∀ k', k' ≠ k → getParam x k' = getParam p k' := by
  rcases hk with ⟨rfl, rfl | ⟨n, hn, rfl⟩⟩ | ⟨rfl | rfl, rfl | rfl⟩
  case inl.inr =>
    rw [setParam, setSheetNumber_number hn]
    exact ⟨_, rfl, rfl, fun k' hk => by cases k' <;> simp [getParam] at hk ⊢⟩
  all_goals
    simp only [setParam, setSheetNumber, setOnOff]
    exact ⟨_, rfl, rfl, fun k' hk => by cases k' <;> simp [getParam] at hk ⊢⟩

theorem setParam_of_bad_form (p : Params) (hk : k = .sheet ∨ k = .mirrorX ∨ k = .mirrorY)
    (bad : ¬ ((k = .sheet ∧ (v = .name .none ∨ ∃ n : Nat, n ≤ 15 ∧ v = .number n))
      ∨ (k ≠ .sheet ∧ (v = .name .on ∨ v = .name .off)))) : setParam p k v = .refused .badValue := by
  rcases hk with rfl | rfl | rfl <;> rw [setParam]
  · exact setSheetNumber_other (fun e => bad (.inl ⟨rfl, .inl e⟩)) (fun e => bad (.inl ⟨rfl, .inr e⟩))
  all_goals exact setOnOff_other (fun e => bad (.inr ⟨nofun, .inl e⟩)) (fun e => bad (.inr ⟨nofun, .inr e⟩))

/-- The staged set of a spindle written. -/
def stage (m : Fin 6) (p : Params) (s : State) : State := setSpindle m { s.spindles[m]'m.2 with staged := p } s

theorem exec_set_param (hq : AtFront ⟨tag, .set (.param k) (m + 1) v⟩ rest s) :
    exec (.set tag (.param k) (m + 1) v) s
      = .next (answerSet ⟨tag, .set (.param k) (m + 1) v⟩ (setParam (s.spindles[m]'m.2).staged k v) (stage m)
          (s.setCellQueue rest)) := by
  refine (takeRequest_front hq).trans (congrArg Host.Outcome.next ?_)
  simp only [takeSet, spindleOfNumber_succ]
  rfl

/-- What a SET that has staged a set leaves of the contexts, and its answer (R64). -/
theorem staged_answer (r : ReplyResult) (b : ReplyBody) (p : Params) (q : Request) :
    let t := answerWith q r b (stage m p (s.setCellQueue rest))
    (t.spindles[m]'m.2).staged = p ∧ t.spindles[m]'m.2 = { s.spindles[m]'m.2 with staged := (t.spindles[m]'m.2).staged }
      ∧ (∀ m' : Fin 6, m' ≠ m → t.spindles[m']'m'.2 = s.spindles[m']'m'.2) ∧ Answered q r b rest [.spindles] s t := by
  dsimp only
  have kept := (answerWith_unchanged q r b (stage m p (s.setCellQueue rest))).spindles
  have at' (m' : Fin 6) : (answerWith q r b (stage m p (s.setCellQueue rest))).spindles[m']'m'.2
      = if m = m' then { s.spindles[m]'m.2 with staged := p } else s.spindles[m']'m'.2 := by
    rw [kept, stage, spindles_setSpindle]
    rfl
  refine ⟨by rw [at', if_pos rfl], by rw [at', if_pos rfl], fun m' h => by rw [at', if_neg (Ne.symm h)],
    answered_answerWith _ _ (setSpindle_unchanged _ _ _) rfl rfl⟩

end Params

/-- Settles O8. -/
theorem setStagesASpindleParameter : Obligations.SetStagesASpindleParameter := by
  unfold Obligations.SetStagesASpindleParameter
  refine ⟨fun s tag m k n lo hi rest hk hq => ?_, fun s tag m k v rest hk hq => ?_⟩
  · obtain ⟨store, hset, stored, kept⟩ := setParam_of_range hk (s.spindles[m]'m.2).staged n
    refine ⟨_, exec_set_param hq, ?_⟩
    rw [hset, answerSet_clamped (paramRange_le hk)]
    obtain ⟨staged, rest_kept, others, answered⟩ := staged_answer (s := s) (rest := rest) (m := m) (numberResult lo hi n)
      (numberBody lo hi n) (store (clamp lo hi n)) ⟨tag, .set (.param k) (m + 1) (.number n)⟩
    refine ⟨?_, fun k' hk' => ?_, rest_kept, others, answered⟩
    · rw [staged]
      exact stored _ le_clamp
    · rw [staged]
      exact kept _ k' hk'
  · refine ⟨_, exec_set_param hq, ?_⟩
    split
    · rename_i form
      obtain ⟨x, hset, stored, kept⟩ := setParam_of_form (s.spindles[m]'m.2).staged
        (form.imp_right fun h => ⟨hk.resolve_left h.1, h.2⟩)
      obtain ⟨staged, rest_kept, others, answered⟩ := staged_answer (s := s) (rest := rest) (m := m) .done .empty x
        ⟨tag, .set (.param k) (m + 1) v⟩
      rw [hset]
      refine ⟨?_, fun k' hk' => ?_, rest_kept, others, answered⟩
      · exact (congrArg (getParam · k) staged).trans stored
      · exact (congrArg (getParam · k') staged).trans (kept k' hk')
    · rename_i bad
      exact refused_answerSet (setParam_of_bad_form _ hk bad)

/-- A name or a spindle number that SET does not take is refused (R169). -/
theorem takeSet_badName {q : Request} {name : ItemName} {spindle : Nat} {v : Value} (s : State)
    (h : (∃ x, name = .other x) ∨ (∃ x, name = .readOnly x) ∨ ((∃ k, name = .setting k) ∧ spindle ≠ 0)
      ∨ ((∃ k, name = .param k) ∧ ¬ (1 ≤ spindle ∧ spindle ≤ 6))) :
    takeSet q name spindle v s = answerRequest q (.refused .badName) s := by
  rcases h with ⟨x, rfl⟩ | ⟨x, rfl⟩ | ⟨⟨k, rfl⟩, h⟩ | ⟨⟨k, rfl⟩, h⟩
  · rfl
  · rfl
  · exact if_neg h
  · simp only [takeSet, spindleOfNumber_outside h]

set_option Elab.async false in
/-- Settles O9. -/
theorem setRefusesBadNamesAndForms : Obligations.SetRefusesBadNamesAndForms := by
  unfold Obligations.SetRefusesBadNamesAndForms
  intro s tag name spindle v rest hq
  refine ⟨fun bad => ⟨_, takeRequest_front hq, ?_⟩, fun form place => ?_⟩
  · rw [takeSet_badName _ bad]
    exact refused_answerRequest _
  · rcases place with ⟨⟨k, rfl, hn, ha⟩, rfl⟩ | ⟨⟨k, rfl, hs, hx, hy⟩, lo, hi⟩
    · exact ⟨_, exec_set_setting hq, refused_answerSet (setSetting_other form hn ha)⟩
    · obtain ⟨m, rfl⟩ : ∃ m : Fin 6, spindle = m + 1 := ⟨⟨spindle - 1, by omega⟩, by simp; omega⟩
      exact ⟨_, exec_set_param hq, refused_answerSet (setParam_other form hs hx hy)⟩

end Sys2Proof.Machine
end

section
/-! SUPPORT. The reports (R19, R171, R180), and the sheet requests that pass or wait (R12, R13, R16). -/

namespace Sys2Proof.Machine

/- A proof is elaborated in a task of its own. `set_option Elab.async false in` before a theorem makes the compile wait there
for the proofs before it, so that only a few are under way at a time; the linters, which would keep every proof's syntax
tree, are off, so that the compile of the whole text stays within its memory. -/
set_option linter.all false

open Sys2Proof

/-! ### Reports -/

section Reports

variable {s : State} {n : Nat} {x : Sheet}

theorem jobReported_jobReport (j : Job) : JobReported j (jobReport j) := by
  cases j <;> exact ⟨rfl, rfl, rfl, rfl⟩

theorem forall₂_jobReported (js : List Job) : List.Forall₂ JobReported js (js.map jobReport) := by
  rw [List.forall₂_map_right_iff, List.forall₂_same]
  exact fun j _ => jobReported_jobReport j

theorem modeOf_eq (s : State) :
    modeOf s = (if s.sched.deadline then .deadline else if s.sched.baseMode = .readFirst then .readFirst
      else .writeFirst) := by
  unfold modeOf
  split
  · rfl
  · cases s.sched.baseMode <;> rfl

/-- While a fill job of a sheet is in the list, the oldest gives its progress (R19). -/
theorem fillProgress_of_job {before after : List Job} {k : Nat} (g : Geometry)
    (h : s.drain.jobs = before ++ .fill n k :: after) (first : ∀ k', Job.fill n k' ∉ before) :
    fillProgress s n g = k := by
  have found : (jobsFor s n).find? Job.isFill = some (.fill n k) := by
    rw [jobsFor, h, List.find?_filter, List.find?_append, List.find?_eq_none.mpr, List.find?_cons_of_pos]
    · rfl
    · simp [Job.sheetOf, Job.isFill]
    · intro j hj
      cases j with
      | fill m k' =>
        simp only [Job.sheetOf, Job.isFill, beq_iff_eq, decide_eq_true_eq, and_true]
        rintro rfl
        exact first k' hj
      | sweep => simp [Job.isFill]
      | load => simp [Job.isFill]
  rw [fillProgress, found]
  rfl

/-- With none in the list the whole extent is filled (R19). -/
theorem fillProgress_of_none (g : Geometry) (h : ∀ k, Job.fill n k ∉ s.drain.jobs) :
    fillProgress s n g = extentOf g * 256 := by
  have none_left : (jobsFor s n).find? Job.isFill = none := by
    rw [List.find?_eq_none]
    intro j hj
    obtain ⟨mem, hn⟩ := List.mem_filter.mp hj
    cases j with
    | fill m k =>
      rw [beq_iff_eq] at hn
      exact absurd (hn ▸ mem) (h k)
    | sweep => exact nofun
    | load => exact nofun
  rw [fillProgress, none_left]

theorem takeSheetStatus_inside {q : Request} (h : n ≤ 15) :
    takeSheetStatus q n s = answerWith q .done (.sheet ((sheetAt s n).map (sheetReport s n))) s := if_neg (by omega)

end Reports

/-- Settles O11. -/
theorem reportsGiveWhatStandsAndChangeNothing : Obligations.ReportsGiveWhatStandsAndChangeNothing := by
  unfold Obligations.ReportsGiveWhatStandsAndChangeNothing
  refine fun s tag rest => ⟨fun hq => ?_, fun n hq => ⟨_, takeRequest_front hq, fun out => ?_, fun hn free => ?_,
    fun x hx => ?_⟩, fun hq => ⟨_, takeRequest_front (act := fun s =>
      answerWith ⟨tag, .countersRead⟩ .done (.counters s.counters.toList) s) hq, answered_report _ _⟩⟩
  · refine ⟨_, statusReport (s.setCellQueue rest), exec_statusRead hq, answered_report _ _, rfl, rfl, modeOf_eq s, rfl, rfl,
      rfl, rfl, rfl, forall₂_jobReported _, ?_, fun i => ⟨_, statusReport_slot i, slotReported_slotReport _⟩, rfl, rfl, rfl,
      rfl, rfl, fun n => ?_, fun p => ?_⟩
    · simp [statusReport]
    · fin_cases n <;> rfl
    · simp [statusReport, portUp, linkOf]
  · rw [takeSheetStatus, if_pos out]
    exact refused_answerRequest _
  · have free' : sheetAt (s.setCellQueue rest) n = none := free
    rw [takeSheetStatus_inside hn, free']
    exact answered_report _ _
  · have hx' : sheetAt (s.setCellQueue rest) n = some x := hx
    rw [takeSheetStatus_inside (Nat.le_of_lt_succ (lt_of_sheetAt hx)), hx']
    refine ⟨sheetReport (s.setCellQueue rest) n x, answered_report _ _, rfl, rfl, rfl, rfl, fun rel hk => ?_,
      fun f hk => ⟨fun before after k h first => ?_, fun h => ?_⟩, rfl, rfl, rfl, rfl, rfl, ?_, rfl, rfl⟩
    · simp [sheetReport, hk, SheetKind.isLetter]
    · simpa [sheetReport, hk, SheetKind.isLetter] using fillProgress_of_job (s := s.setCellQueue rest) x.geom h first
    · simpa [sheetReport, hk, SheetKind.isLetter, extentOf] using fillProgress_of_none (s := s.setCellQueue rest) x.geom h
    · cases hw : s.window <;> simp [sheetReport, hw]

/-! ### SHEET_OPEN -/

section Open

variable {s : State} {f : OpenFields} {k : SheetKind}

/-- The kind that check 3 finds is what the fields of that code ask (R12, R13). -/
theorem openKind_fields (hk : openKind f = some k) :
    (f.kind = 0 → k = .relief { href := f.href, policy := if f.policy = 0 then .void else .hold, accepted := 0, written := 0 })
      ∧ (f.kind = 1 → k = .letter f.floor) := by
  obtain ⟨n, kind, w, h, p, q, b, href, policy, floor⟩ := f
  simp only [openKind, Option.ite_none_right_eq_some] at hk
  obtain ⟨-, hk⟩ := hk
  match kind with
  | 0 =>
    refine ⟨fun _ => ?_, nofun⟩
    match policy with
    | 0 | 1 =>
      simp only [policyOf, Option.ite_none_right_eq_some, Option.some.injEq] at hk
      exact hk.2.symm
    | _ + 2 => cases hk
  | 1 =>
    simp only [Option.ite_none_right_eq_some, Option.some.injEq] at hk
    exact ⟨nofun, fun _ => hk.2.symm⟩
  | _ + 2 => cases hk

theorem checkOpen_ok (hn : f.sheet ≤ 15) (hs : sheetAt s f.sheet = none) (hk : openKind f = some k)
    (hroom : (openGeometry f).base + extentOf (openGeometry f) ≤ 131072)
    (hfree : ¬ ExtentTaken s (openGeometry f).base (extentOf (openGeometry f)))
    (hfill : f.kind = 1 → ∀ m next, Job.fill m next ∉ s.drain.jobs) : checkOpen s f = .ok (openedSheet f k) := by
  have not_busy : (k.isLetter && s.drain.jobs.any Job.isFill) = false := by
    rw [Bool.and_eq_false_iff]
    by_cases letter : f.kind = 1
    · exact .inr (Bool.eq_false_iff.mpr (mt any_isFill_iff.mp fun ⟨m, next, h⟩ => hfill letter m next h))
    · exact .inl (Bool.eq_false_iff.mpr (mt (openKind_isLetter hk).mp letter))
  simp only [checkOpen, if_neg (Nat.not_lt.2 hn), hs, Option.isSome_none, Bool.false_eq_true, if_false, hk,
    if_neg (Nat.not_lt.2 hroom), if_neg (mt overlapsAny_iff.1 hfree), not_busy]

set_option Elab.async false in
theorem openSheet_relief {n : Nat} {x : Sheet} (h : x.kind.isLetter = false) : openSheet n x s = setSheet n (some x) s := by
  simp [openSheet, h]

theorem openSheet_letter {n : Nat} {x : Sheet} (h : x.kind.isLetter = true) :
    openSheet n x s = (setSheet n (some x) s).setDrain { s.drain with jobs := s.drain.jobs ++ [.fill n 0] } := by
  simp [openSheet, h, setSheet]

theorem sheetAt_openSheet {n : Nat} (m : Nat) (x : Sheet) (h : n ≤ 15) :
    sheetAt (openSheet n x s) m = if m = n then some x else sheetAt s m := by
  have : sheetAt (openSheet n x s) m = sheetAt (setSheet n (some x) s) m := by
    unfold openSheet
    split <;> rfl
  rw [this, sheetAt_setSheet]
  simp [show n < 16 by omega]

end Open

/-- Settles O13. -/
theorem sheetOpenOpensTheSheetAskedFor : Obligations.SheetOpenOpensTheSheetAskedFor := by
  unfold Obligations.SheetOpenOpensTheSheetAskedFor
  intro s tag n k w h p q b hr po f rest hq hn free lawful room apart no_fill
  let fields : OpenFields := ⟨n, k, w, h, p, q, b, hr, po, f⟩
  obtain ⟨kind, hk⟩ := exists_openKind (f := fields) lawful
  have passes : checkOpen (s.setCellQueue rest) fields = .ok (openedSheet fields kind) :=
    checkOpen_ok hn free hk room apart no_fill
  obtain ⟨relief, letter⟩ := openKind_fields hk
  set x := openedSheet fields kind with hx
  set u := openSheet n x (s.setCellQueue rest) with hu
  have opened := openSheet_unchanged (s.setCellQueue rest) n x
  have sheets (m : Nat) : sheetAt (answerRequest ⟨tag, .sheetOpen n k w h p q b hr po f⟩ .done u) m
      = if m = n then some x else sheetAt s m := by
    rw [sheetAt, (answerRequest_unchanged _ _ _).sheets]
    exact sheetAt_openSheet m x hn
  refine ⟨answerRequest ⟨tag, .sheetOpen n k w h p q b hr po f⟩ .done u, x, ?_, by rw [sheets, if_pos rfl],
    fun m hm => by rw [sheets, if_neg hm], rfl, rfl, rfl, rfl, rfl, fun hk0 => ?_, fun hk1 => ?_⟩
  · refine (takeRequest_front hq).trans (congrArg Host.Outcome.next ?_)
    rw [takeSheetOpen, passes]
  · obtain rfl := relief hk0
    refine ⟨rfl, rfl, answered_answerRequest _ ?_ (opened.links.trans rfl) (opened.cellQueue.trans rfl)⟩
    rw [hu, openSheet_relief rfl]
    exact setSheet_unchanged _ _ _
  · obtain rfl := letter hk1
    refine ⟨rfl, rfl, ?_, answered_answerRequest _ opened (opened.links.trans rfl) (opened.cellQueue.trans rfl)⟩
    rw [(answerRequest_unchanged _ _ _).drain, hu, openSheet_letter rfl]
    rfl

end Sys2Proof.Machine
end

section
/-! SUPPORT. SHEET_READY (R16), LOAD_BLOCK (R148, R149) and WINDOW_CANCEL (R158); then rewinds (R32) and the removal of jobs
(R36), each as what it leaves, with the requests that hold, release and flush the ingest (R34, R35). -/

namespace Sys2Proof.Machine

/- A proof is elaborated in a task of its own. `set_option Elab.async false in` before a theorem makes the compile wait there
for the proofs before it, so that only a few are under way at a time; the linters, which would keep every proof's syntax
tree, are off, so that the compile of the whole text stays within its memory. -/
set_option linter.all false

open Sys2Proof

/-- A part that stays need not be listed. -/
theorem Unchanged.drop {b : Block} {c : List Block} {s t : State} (h : Unchanged (b :: c) s t) (hb : b.same s t) :
    Unchanged c s t := by
  intro d hd
  by_cases e : d = b
  · exact e ▸ hb
  · exact h d (by simp [e, hd])

/-! ### Replies on Port C -/

section Replies

variable {s : State} {q : Request} {rest : List Request}

theorem toSend_answerRequest (r : ReplyResult) (h : portUp s .c = true) :
    (linkOf (answerRequest q r s) .c).toSend = (linkOf s .c).toSend ++ [.cellReply q.tag q.body.kind r .empty] :=
  toSend_send _ h

theorem toSend_answerWith (r : ReplyResult) (b : ReplyBody) (h : portUp s .c = true) :
    (linkOf (answerWith q r b s) .c).toSend = (linkOf s .c).toSend ++ [.cellReply q.tag q.body.kind r b] :=
  toSend_send _ h

end Replies

/-! ### SHEET_READY -/

section Ready

variable {s : State} {q : Request} {n : Nat} {x : Sheet} {tag : Tag}

theorem jobsFor_isEmpty_iff : (jobsFor s n).isEmpty = true ↔ ∀ j ∈ s.drain.jobs, j.sheetOf ≠ n := by
  simp [jobsFor, List.filter_eq_nil_iff]

theorem entriesFor_isEmpty_iff : (entriesFor s n).isEmpty = true ↔ ∀ e ∈ s.drain.queue, e.sheet ≠ n := by
  simp [entriesFor, List.filter_eq_nil_iff]

/-- The test of R16: LOADING with no job and no entry. -/
def ReadyTest (x : Sheet) (n : Nat) (s : State) : Prop :=
  x.state = .loading ∧ (∀ j ∈ s.drain.jobs, j.sheetOf ≠ n) ∧ ∀ e ∈ s.drain.queue, e.sheet ≠ n

theorem testSheetReady_none (h : sheetAt s n = none) : testSheetReady n s = s := by simp [testSheetReady, h]

theorem testSheetReady_not_waiting (hx : sheetAt s n = some x) (hr : x.readyWaiting = none) : testSheetReady n s = s := by
  simp [testSheetReady, hx, hr]

theorem testSheetReady_passes (hx : sheetAt s n = some x) (hr : x.readyWaiting = some tag) (h : ReadyTest x n s) :
    testSheetReady n s = answerRequest ⟨tag, .sheetReady n⟩ .done
      (setSheet n (some { x with state := .ready, readyWaiting := none }) s) := by
  simp only [testSheetReady, hx, hr]
  exact if_pos ⟨h.1, jobsFor_isEmpty_iff.mpr h.2.1, entriesFor_isEmpty_iff.mpr h.2.2⟩

theorem testSheetReady_waits (hx : sheetAt s n = some x) (hr : x.readyWaiting = some tag) (h : ¬ ReadyTest x n s) :
    testSheetReady n s = s := by
  simp only [testSheetReady, hx, hr]
  exact if_neg fun ⟨a, b, c⟩ => h ⟨a, jobsFor_isEmpty_iff.mp b, entriesFor_isEmpty_iff.mp c⟩

theorem takeSheetReady_retiring (hx : sheetAt s n = some x) (hs : x.state = .retiring) :
    takeSheetReady q n s = answerRequest q (.refused .noSheet) s := by
  simp only [takeSheetReady, if_neg (Nat.not_lt.2 (Nat.le_of_lt_succ (lt_of_sheetAt hx))), hx, hs]

theorem takeSheetReady_scanning (hx : sheetAt s n = some x) (hs : x.state = .scanning) :
    takeSheetReady q n s = answerRequest q (.refused .wrongState) s := by
  simp only [takeSheetReady, if_neg (Nat.not_lt.2 (Nat.le_of_lt_succ (lt_of_sheetAt hx))), hx, hs]

set_option Elab.async false in
theorem takeSheetReady_ready (hx : sheetAt s n = some x) (hs : x.state = .ready) :
    takeSheetReady q n s = answerRequest q .done s := by
  simp only [takeSheetReady, if_neg (Nat.not_lt.2 (Nat.le_of_lt_succ (lt_of_sheetAt hx))), hx, hs]

theorem takeSheetReady_loading (hx : sheetAt s n = some x) (hs : x.state = .filling ∨ x.state = .loading) :
    takeSheetReady q n s = if x.readyWaiting.isSome then answerRequest q (.refused .busy) s
      else testSheetReady n (setSheet n (some { x with readyWaiting := some q.tag }) s) := by
  obtain hs | hs := hs
  all_goals simp only [takeSheetReady, if_neg (Nat.not_lt.2 (Nat.le_of_lt_succ (lt_of_sheetAt hx))), hx, hs]

theorem takeSheetReady_joins (hx : sheetAt s n = some x) (hs : x.state = .filling ∨ x.state = .loading)
    (hr : x.readyWaiting = none) :
    takeSheetReady q n s = testSheetReady n (setSheet n (some { x with readyWaiting := some q.tag }) s) := by
  rw [takeSheetReady_loading hx hs, if_neg (by simp [hr])]

end Ready

/-- Settles O14. -/
theorem sheetReadyIsAnsweredByTheSheetState : Obligations.SheetReadyIsAnsweredByTheSheetState := by
  unfold Obligations.SheetReadyIsAnsweredByTheSheetState
  intro s tag n rest hq
  set u := s.setCellQueue rest with hu
  refine ⟨takeSheetReady ⟨tag, .sheetReady n⟩ n u, takeRequest_front hq, fun out => ?_, fun hn free => ?_, fun x hx => ?_⟩
  · rw [takeSheetReady, if_pos out]
    exact refused_answerRequest _
  · have free' : sheetAt u n = none := free
    simp only [takeSheetReady, if_neg (Nat.not_lt.2 hn), free']
    exact refused_answerRequest _
  · have hx' : sheetAt u n = some x := hx
    refine ⟨fun hs => ?_, fun hs => ?_, fun hs => ?_, fun hs waits => ?_, fun hs free => ?_⟩
    · rw [takeSheetReady_retiring hx' hs]
      exact refused_answerRequest _
    · rw [takeSheetReady_scanning hx' hs]
      exact refused_answerRequest _
    · rw [takeSheetReady_ready hx' hs]
      exact answered_answerRequest _ (.refl _ _) rfl rfl
    · rw [takeSheetReady_loading hx' hs, if_pos (Option.isSome_iff_ne_none.2 waits)]
      exact refused_answerRequest _
    · rw [takeSheetReady_joins hx' hs free]
      set y : Sheet := { x with readyWaiting := some tag } with hy
      set v := setSheet n (some y) u with hv
      have hy' : sheetAt v n = some y := sheetAt_setSheet_same _ hx'
      have kept (m : Nat) (hm : m ≠ n) : sheetAt v m = sheetAt s m := sheetAt_setSheet_other _ hm
      have joined : Unchanged [.sheets] u v := setSheet_unchanged _ _ _
      refine ⟨fun m hm => ?_, ?_⟩
      · by_cases test : ReadyTest y n v
        · rw [testSheetReady_passes hy' rfl test, sheetAt, (answerRequest_unchanged _ _ _).sheets]
          exact (sheetAt_setSheet_other _ hm).trans (kept m hm)
        · rw [testSheetReady_waits hy' rfl test]
          exact kept m hm
      · split
        · rename_i test
          rw [testSheetReady_passes hy' rfl test]
          refine ⟨?_, answered_answerRequest _ (joined.andThen (setSheet_unchanged _ _ _)) rfl rfl⟩
          rw [sheetAt, (answerRequest_unchanged _ _ _).sheets]
          exact sheetAt_setSheet_same _ hy'
        · rename_i test
          rw [testSheetReady_waits hy' rfl test]
          exact ⟨hy', rfl, ((setCellQueue_unchanged rest s).mono (by simp)).andThen joined⟩

/-! ### LOAD_BLOCK -/

section Load

variable {s : State} {n x y w h count : Nat} {sh : Sheet}

/-- The lowest FREE buffer is taken (R149). -/
theorem freeBuffer_of_lowest {b : Fin 4} (free : s.buffers[b]'b.2 = none) (lower : ∀ a : Fin 4, a < b → s.buffers[a]'a.2 ≠ none) :
    freeBuffer s = some b := by
  have all : ([0, 1, 2, 3] : List (Fin 4)) = (List.finRange 4) := by decide
  unfold freeBuffer
  rw [all, List.find?_eq_some_iff_getElem]
  refine ⟨by simpa using free, b, by simp, by simp, fun j hj => ?_⟩
  simpa using Option.isSome_iff_ne_none.2 (lower ⟨j, by omega⟩ hj)

theorem freeBuffer_none (held : ∀ b : Fin 4, s.buffers[b]'b.2 ≠ none) : freeBuffer s = none := by
  unfold freeBuffer
  rw [List.find?_eq_none]
  exact fun b _ => by simpa using held b

/-- What check 3 of R148 asks. -/
abbrev LoadLawful (sh : Sheet) (x y w h count : Nat) : Prop :=
  0 < w ∧ 0 < h ∧ w * h ≤ 1024 ∧ count = w * h ∧ x + w ≤ sh.geom.width ∧ y + h ≤ sh.geom.height

theorem checkLoad_sheet_outside (hn : 15 < n) : checkLoad s n x y w h count = .error .badValue := if_pos hn

theorem checkLoad_wrong_state (hn : n ≤ 15)
    (hs : ∀ sh, sheetAt s n = some sh → sh.state ≠ .filling ∧ sh.state ≠ .loading) :
    checkLoad s n x y w h count = .error .wrongState := by
  simp only [checkLoad, if_neg (Nat.not_lt.2 hn)]
  split
  · rfl
  · rename_i sh hsh
    exact if_pos (hs sh hsh)

theorem checkLoad_unlawful (hsh : sheetAt s n = some sh) (hs : sh.state = .filling ∨ sh.state = .loading)
    (unlawful : ¬ LoadLawful sh x y w h count) : checkLoad s n x y w h count = .error .badValue := by
  simp only [checkLoad, if_neg (Nat.not_lt.2 (Nat.le_of_lt_succ (lt_of_sheetAt hsh))), hsh]
  rw [if_neg (fun e => hs.elim e.1 e.2), if_pos]
  unfold LoadLawful at unlawful
  omega

theorem checkLoad_busy (hsh : sheetAt s n = some sh) (hs : sh.state = .filling ∨ sh.state = .loading)
    (lawful : LoadLawful sh x y w h count) (hb : freeBuffer s = none) : checkLoad s n x y w h count = .error .busy := by
  simp only [checkLoad, if_neg (Nat.not_lt.2 (Nat.le_of_lt_succ (lt_of_sheetAt hsh))), hsh, hb]
  rw [if_neg (fun e => hs.elim e.1 e.2), if_neg]
  unfold LoadLawful at lawful
  omega

theorem checkLoad_ok {b : Fin 4} (hsh : sheetAt s n = some sh) (hs : sh.state = .filling ∨ sh.state = .loading)
    (lawful : LoadLawful sh x y w h count) (hb : freeBuffer s = some b) : checkLoad s n x y w h count = .ok b := by
  simp only [checkLoad, if_neg (Nat.not_lt.2 (Nat.le_of_lt_succ (lt_of_sheetAt hsh))), hsh, hb]
  rw [if_neg (fun e => hs.elim e.1 e.2), if_neg]
  unfold LoadLawful at lawful
  omega

theorem takeLoadBlock_refused {q : Request} {codes : List Code} {rest : List Request} {r : Reason}
    (h' : checkLoad (s.setCellQueue rest) n x y w h codes.length = .error r) :
    Refused q r rest s (takeLoadBlock q n x y w h codes (s.setCellQueue rest)) := by
  rw [takeLoadBlock, h']
  exact refused_answerRequest r

end Load

/-- Settles O16. -/
theorem loadBlockIsAcceptedOrRefused : Obligations.LoadBlockIsAcceptedOrRefused := by
  unfold Obligations.LoadBlockIsAcceptedOrRefused
  intro s tag n x y w h codes rest hq
  refine ⟨_, takeRequest_front hq, fun out => takeLoadBlock_refused (checkLoad_sheet_outside out),
    fun hn hs => takeLoadBlock_refused (checkLoad_wrong_state hn hs), fun sh hsh hs =>
      ⟨fun unlawful => takeLoadBlock_refused ?_, fun lawful held => takeLoadBlock_refused ?_, fun lawful b free lower => ?_⟩⟩
  · exact checkLoad_unlawful (s := s.setCellQueue rest) hsh hs unlawful
  · exact checkLoad_busy (s := s.setCellQueue rest) hsh hs lawful (freeBuffer_none held)
  · have passes : checkLoad (s.setCellQueue rest) n x y w h codes.length = .ok b :=
      checkLoad_ok (s := s.setCellQueue rest) hsh hs lawful (freeBuffer_of_lowest free lower)
    rw [takeLoadBlock, passes]
    refine ⟨?_, ?_, answered_answerRequest _ ?_ rfl rfl⟩
    · exact (answerRequest_unchanged _ _ _).buffers
    · exact (answerRequest_unchanged _ _ _).drain
    · exact ((setBuffers_unchanged _ _).mono (by simp)).andThen (setDrain_unchanged _ _)

/-! ### WINDOW_CANCEL -/

section Cancel

variable {s : State}

theorem discardInFlight_of {o : InFlight} {p : InFlight → Bool} (ho : s.port.inFlight = some o) (hp : p o = true) :
    discardInFlight p s = setInFlight (some { o with discard := true }) s := by
  simp [discardInFlight, ho, hp]

theorem discardInFlight_not {o : InFlight} {p : InFlight → Bool} (ho : s.port.inFlight = some o) (hp : p o = false) :
    discardInFlight p s = s := by
  simp [discardInFlight, ho, hp]

set_option Elab.async false in
theorem discardInFlight_idle {p : InFlight → Bool} (ho : s.port.inFlight = none) : discardInFlight p s = s := by
  simp [discardInFlight, ho]

theorem ownedByWindow_iff {o : InFlight} :
    ownedByWindow o = true ↔ ∃ tile word y k, o.op = .read tile word (.window y k) := by
  unfold ownedByWindow
  split
  · rename_i tile word y k e
    exact ⟨fun _ => ⟨tile, word, y, k, e⟩, fun _ => rfl⟩
  · rename_i other
    exact ⟨nofun, fun ⟨tile, word, y, k, e⟩ => absurd e (other tile word y k)⟩

theorem endWindowWith_some {w : WindowRead} (r : ReplyResult) (hw : s.window = some w) :
    endWindowWith r s = send .c (.cellReply w.tag 9 r .empty) (dropWindow s) := by
  simp only [endWindowWith, hw]
  rfl

theorem endWindowWith_none (r : ReplyResult) (hw : s.window = none) : endWindowWith r s = s := by
  simp [endWindowWith, hw]

@[simp] theorem dropWindow_window (s : State) : (dropWindow s).window = none := rfl

theorem dropWindow_port (s : State) : (dropWindow s).port = (discardInFlight ownedByWindow s).port := rfl

end Cancel

/-- Settles O18. -/
theorem windowCancelEndsTheWindow : Obligations.WindowCancelEndsTheWindow := by
  unfold Obligations.WindowCancelEndsTheWindow
  intro s tag rest hq
  set q : Request := ⟨tag, .windowCancel⟩ with hqdef
  set u := s.setCellQueue rest with hu
  refine ⟨takeWindowCancel q u, takeRequest_front hq, fun hw => ?_, fun w hw => ?_⟩
  · have hw' : u.window = none := hw
    rw [takeWindowCancel, hw', if_neg (by simp)]
    exact refused_answerRequest _
  · have hw' : u.window = some w := hw
    rw [takeWindowCancel, hw', if_pos Option.isSome_some, endWindowWith_some _ hw']
    have dropped := dropWindow_unchanged u
    have sent := send_unchanged .c (.cellReply w.tag 9 .cancelled .empty) (dropWindow u)
    have answered := answerRequest_unchanged q .done (send .c (.cellReply w.tag 9 .cancelled .empty) (dropWindow u))
    refine ⟨?_, ?_, fun up => ?_, fun o ho owned => ?_, ?_⟩
    · rw [answered.window, sent.window, dropWindow_window]
    · rw [answered.cellQueue, sent.cellQueue, dropped.cellQueue]
      rfl
    · have same : linkOf (dropWindow u) .c = linkOf s .c := linkOf_congr _ dropped.links
      rw [toSend_answerRequest, toSend_send, same, List.append_assoc]
      · rfl
      · rwa [portUp, same]
      · rwa [portUp_send, portUp, same]
    · rw [answered.port, sent.port, dropWindow_port, discardInFlight_of (s := u) ho (ownedByWindow_iff.mpr owned)]
      rfl
    · exact ((((setCellQueue_unchanged rest s).mono (by simp)).andThen dropped).andThen sent).andThen answered

/-! ### Rewinds (R32) -/

section Rewinds

variable {s : State} {i : Fin 2} {w : Sweep}

theorem filling?_eq_some {x : Slot} : x.filling? = some w ↔ x = .filling w := by
  cases x <;> simp [Slot.filling?]

theorem slot_of_fillingSweep (h : fillingSweep s = some (i, w)) : s.ingest.slots[i]'i.2 = .filling w := by
  unfold fillingSweep at h
  split at h
  · rename_i v hv
    cases h
    exact filling?_eq_some.mp hv
  · obtain ⟨v, hv, e⟩ := Option.map_eq_some_iff.mp h
    cases e
    exact filling?_eq_some.mp hv

theorem slot_of_no_fillingSweep (h : fillingSweep s = none) (i : Fin 2) (w : Sweep) : s.ingest.slots[i]'i.2 ≠ .filling w := by
  unfold fillingSweep at h
  split at h
  · cases h
  · rename_i h0
    have h1 := Option.map_eq_none_iff.mp h
    intro e
    have e := filling?_eq_some.mpr e
    obtain rfl | rfl : i = 0 ∨ i = 1 := by omega
    · rw [h0] at e
      cases e
    · rw [h1] at e
      cases e

theorem slots_setSlot (x : Slot) (k : Fin 2) :
    (setSlot i x s).ingest.slots[k]'k.2 = if i = k then x else s.ingest.slots[k]'k.2 := by
  simp [setSlot, Vector.getElem_set, Fin.ext_iff]

/-- The sweep `w` of slot `i` has been rewound: whether a result went out, the notice was set and the rewind counted is the
cause's (R32). -/
structure Rewound (i : Fin 2) (w : Sweep) (reason : SweepReason) (result notice counted : Bool) (s t : State) : Prop where
  ingest : t.ingest = { s.ingest with slots := s.ingest.slots.set i .free }
  links : t.links = if result then (sendSweepResult w.tag .rewound w.row reason s).links else s.links
  notices : t.notices
    = if notice then { s.notices with pending := s.notices.pending ||| srcSweepRewound } else s.notices
  counters : t.counters
    = if counted then s.counters.set cntSweepsRewound (s.counters[cntSweepsRewound]'cntSweepsRewound.2 + 1) else s.counters
  unchanged : Unchanged [.ingest, .links, .notices, .counters] s t

set_option Elab.async false in
theorem rewind_none (reason : SweepReason) (result notice counted : Bool) (h : fillingSweep s = none) :
    rewind reason result notice counted s = s := by
  simp [rewind, h]

theorem rewind_rewound (reason : SweepReason) (result notice counted : Bool) (h : fillingSweep s = some (i, w)) :
    Rewound i w reason result notice counted s (rewind reason result notice counted s) := by
  have sent (v : State) := send_unchanged .t (.sweepResult w.tag .rewound w.row reason) v
  simp only [rewind, h]
  set u := if result then sendSweepResult w.tag .rewound w.row reason (setSlot i .free s) else setSlot i .free s with hu
  have result_sent : u.ingest = { s.ingest with slots := s.ingest.slots.set i .free } ∧ u.notices = s.notices
      ∧ u.counters = s.counters
      ∧ u.links = if result then (sendSweepResult w.tag .rewound w.row reason s).links else s.links := by
    cases result
    · exact ⟨rfl, rfl, rfl, rfl⟩
    · exact ⟨(sent _).ingest, (sent _).notices, (sent _).counters, send_links_congr _ _ rfl⟩
  obtain ⟨ingest, notices, counters, links⟩ := result_sent
  set v := if notice then raise srcSweepRewound u else u with hv
  have noted : v.ingest = u.ingest ∧ v.counters = u.counters ∧ v.links = u.links
      ∧ v.notices = if notice then { u.notices with pending := u.notices.pending ||| srcSweepRewound } else u.notices := by
    rw [raise_of_not_urgent (show srcSweepRewound &&& urgentSources = 0 by decide)] at hv
    rw [hv]
    cases notice
    · exact ⟨rfl, rfl, rfl, rfl⟩
    · exact ⟨rfl, rfl, rfl, rfl⟩
  obtain ⟨ingest', counters', links', notices'⟩ := noted
  have count_kept := count_unchanged cntSweepsRewound v
  have frame : Unchanged [.ingest, .links, .notices, .counters] s (if counted then count cntSweepsRewound v else v) := by
    have := rewind_unchanged reason result notice counted s
    simpa only [rewind, h] using this
  cases counted
  · exact ⟨ingest'.trans ingest, links'.trans links, by rw [← notices]; exact notices', counters'.trans counters, frame⟩
  · refine ⟨count_kept.ingest.trans (ingest'.trans ingest), count_kept.links.trans (links'.trans links), ?_, ?_, frame⟩
    · rw [← notices]
      exact count_kept.notices.trans notices'
    · exact count_counters_of_eq _ (counters'.trans counters)

end Rewinds

/-- Settles O20. -/
theorem ingestHoldAndReleaseGovernTheHoldFlag : Obligations.IngestHoldAndReleaseGovernTheHoldFlag := by
  unfold Obligations.IngestHoldAndReleaseGovernTheHoldFlag
  refine fun s tag rest => ⟨fun hq => ?_, fun hq => ?_⟩
  · set u := (s.setCellQueue rest).setIngest { s.ingest with hold := true } with hu
    have start : Unchanged [.ingest, .cellQueue] s u :=
      ((setCellQueue_unchanged rest s).mono (by simp)).andThen (setIngest_unchanged _ _)
    have same : fillingSweep u = fillingSweep s := rfl
    have answered := answerRequest_unchanged ⟨tag, .ingestHold⟩ .done (rewindNoted .held u)
    refine ⟨answerRequest ⟨tag, .ingestHold⟩ .done (rewindNoted .held u), takeRequest_front (act := fun s =>
      answerRequest ⟨tag, .ingestHold⟩ .done (rewindNoted .held (s.setIngest { s.ingest with hold := true }))) hq, ?_⟩
    rw [answered.ingest, answered.cellQueue, answered.notices, answered.counters]
    cases hf : fillingSweep s with
    | none =>
      have kept : rewindNoted .held u = u := rewind_none _ _ _ _ (same.trans hf)
      rw [kept]
      refine ⟨rfl, rfl, rfl, fun _ => ⟨rfl, answered_answerRequest _ (setIngest_unchanged _ _) rfl rfl⟩, nofun⟩
    | some p =>
      obtain ⟨i, w⟩ := p
      have back : Rewound i w .held true true true u (rewindNoted .held u) := rewind_rewound _ _ _ _ (same.trans hf)
      rw [back.ingest, back.unchanged.cellQueue, back.notices, back.counters]
      refine ⟨rfl, rfl, rfl, nofun, ?_⟩
      rintro _ _ ⟨⟩
      have other : linkOf (rewindNoted .held u) .c = linkOf s .c :=
        (linkOf_congr .c back.links).trans (linkOf_send_other _ (by decide))
      refine ⟨rfl, rfl, rfl, fun up => ?_, fun up => ?_, ?_⟩
      · rw [answerRequest, reply, linkOf_send_other _ (by decide), linkOf_congr .t back.links]
        exact toSend_send (s := u) _ up
      · rw [toSend_answerRequest _ (by rwa [portUp, other]), other]
        rfl
      · exact ((start.mono (by simp)).andThen back.unchanged).andThen answered
  · exact ⟨_, takeRequest_front (act := fun s =>
      answerRequest ⟨tag, .ingestRelease⟩ .done (s.setIngest { s.ingest with hold := false })) hq,
      (answerRequest_unchanged _ _ _).ingest, answered_answerRequest _ (setIngest_unchanged _ _) rfl rfl⟩

/-! ### Jobs removed (R36) -/

section RemoveJobs

variable {s : State} {p : Job → Bool}

theorem slots_freeJobPlace (j : Job) (i : Fin 2) :
    (freeJobPlace j s).ingest.slots[i]'i.2 = if j.slot? = some i then .free else s.ingest.slots[i]'i.2 := by
  cases j with
  | sweep k n y next =>
    simp only [Job.slot?, Option.some.injEq]
    exact slots_setSlot .free i
  | fill n next => rfl
  | load b n x y w h next => rfl

theorem buffers_freeJobPlace (j : Job) (b : Fin 4) :
    (freeJobPlace j s).buffers[b]'b.2 = if j.buffer? = some b then none else s.buffers[b]'b.2 := by
  cases j with
  | sweep k n y next => rfl
  | fill n next => rfl
  | load a n x y w h next => simp [freeJobPlace, Job.buffer?, Vector.getElem_set, Fin.ext_iff]

/-- The hold flag and the stray count are no place of a job. -/
theorem freeJobPlace_ingest (j : Job) :
    (freeJobPlace j s).ingest.hold = s.ingest.hold ∧ (freeJobPlace j s).ingest.stray = s.ingest.stray := by
  cases j <;> exact ⟨rfl, rfl⟩

theorem slots_freePlaces (js : List Job) (i : Fin 2) (s : State) :
    (js.foldl (fun s j => freeJobPlace j s) s).ingest.slots[i]'i.2
      = if ∃ j ∈ js, j.slot? = some i then .free else s.ingest.slots[i]'i.2 := by
  induction js generalizing s with
  | nil => simp
  | cons j js ih =>
    rw [List.foldl_cons, ih, slots_freeJobPlace]
    by_cases later : ∃ j ∈ js, j.slot? = some i
    · rw [if_pos later, if_pos (by simp [later])]
    · rw [if_neg later]
      by_cases here : j.slot? = some i
      · rw [if_pos here, if_pos ⟨j, by simp, here⟩]
      · rw [if_neg here, if_neg]
        rintro ⟨k, hk, e⟩
        obtain rfl | hk := List.mem_cons.mp hk
        · exact here e
        · exact later ⟨k, hk, e⟩

theorem buffers_freePlaces (js : List Job) (b : Fin 4) (s : State) :
    (js.foldl (fun s j => freeJobPlace j s) s).buffers[b]'b.2
      = if ∃ j ∈ js, j.buffer? = some b then none else s.buffers[b]'b.2 := by
  induction js generalizing s with
  | nil => simp
  | cons j js ih =>
    rw [List.foldl_cons, ih, buffers_freeJobPlace]
    by_cases later : ∃ j ∈ js, j.buffer? = some b
    · rw [if_pos later, if_pos (by simp [later])]
    · rw [if_neg later]
      by_cases here : j.buffer? = some b
      · rw [if_pos here, if_pos ⟨j, by simp, here⟩]
      · rw [if_neg here, if_neg]
        rintro ⟨k, hk, e⟩
        obtain rfl | hk := List.mem_cons.mp hk
        · exact here e
        · exact later ⟨k, hk, e⟩

theorem ingest_freePlaces (js : List Job) (s : State) :
    (js.foldl (fun s j => freeJobPlace j s) s).ingest.hold = s.ingest.hold
      ∧ (js.foldl (fun s j => freeJobPlace j s) s).ingest.stray = s.ingest.stray := by
  induction js generalizing s with
  | nil => exact ⟨rfl, rfl⟩
  | cons j js ih =>
    obtain ⟨hold, stray⟩ := ih (freeJobPlace j s)
    obtain ⟨hold', stray'⟩ := freeJobPlace_ingest (s := s) j
    exact ⟨hold.trans hold', stray.trans stray'⟩

theorem removeJobs_drain (p : Job → Bool) (s : State) :
    (removeJobs p s).drain = { s.drain with jobs := s.drain.jobs.filter (fun j => !p j) } :=
  (Unchanged.foldl _ (fun s j => freeJobPlace_unchanged j s) _ _).drain

theorem slots_removeJobs (p : Job → Bool) (i : Fin 2) (s : State) :
    (removeJobs p s).ingest.slots[i]'i.2
      = if ∃ j ∈ s.drain.jobs, p j = true ∧ j.slot? = some i then .free else s.ingest.slots[i]'i.2 := by
  simp only [removeJobs, slots_freePlaces, List.mem_filter, and_assoc]
  rfl

theorem buffers_removeJobs (p : Job → Bool) (b : Fin 4) (s : State) :
    (removeJobs p s).buffers[b]'b.2
      = if ∃ j ∈ s.drain.jobs, p j = true ∧ j.buffer? = some b then none else s.buffers[b]'b.2 := by
  simp only [removeJobs, buffers_freePlaces, List.mem_filter, and_assoc]
  rfl

theorem removeJobs_ingest (p : Job → Bool) (s : State) :
    (removeJobs p s).ingest.hold = s.ingest.hold ∧ (removeJobs p s).ingest.stray = s.ingest.stray :=
  ingest_freePlaces _ _

set_option Elab.async false in
theorem slot?_eq_some {j : Job} {i : Fin 2} : j.slot? = some i ↔ ∃ n y k, j = .sweep i n y k := by
  cases j <;> simp [Job.slot?]

end RemoveJobs

/-! ### INGEST_FLUSH -/

section Flush

variable {s : State} {i : Fin 2}

theorem unstartedSweep_iff {j : Job} : j.unstartedSweep = true ↔ ∃ i n y, j = .sweep i n y 0 := by
  cases j <;> simp [Job.unstartedSweep]

theorem unstarted_in_slot_iff :
    (∃ j ∈ s.drain.jobs, j.unstartedSweep = true ∧ j.slot? = some i) ↔ ∃ n y, Job.sweep i n y 0 ∈ s.drain.jobs := by
  constructor
  · rintro ⟨j, mem, hj, hi⟩
    obtain ⟨k, n, y, rfl⟩ := unstartedSweep_iff.mp hj
    cases hi
    exact ⟨n, y, mem⟩
  · rintro ⟨n, y, mem⟩
    exact ⟨_, mem, rfl, rfl⟩

theorem rowsOnTheirWay_eq (s : State) (n : Nat) :
    rowsOnTheirWay s n = (s.drain.jobs.filter (fun j => match j with
        | .sweep _ m _ _ => m == n
        | _ => false)).length
      + (s.drain.queue.filter (fun e => e.sheet == n && e.endOfRow.isSome)).length := by
  unfold rowsOnTheirWay
  congr 2
  exact List.filter_congr fun e _ => by rw [Bool.decide_and, Bool.decide_coe]; rfl

/-- What a rewind leaves of the links but Port T's. -/
theorem rewind_linkOf_other {p : Port} (hp : p ≠ .t) (reason : SweepReason) (result notice counted : Bool) (s : State) :
    linkOf (rewind reason result notice counted s) p = linkOf s p := by
  cases hf : fillingSweep s with
  | none => rw [rewind_none _ _ _ _ hf]
  | some f =>
    have links := (rewind_rewound reason result notice counted hf).links
    cases result
    · exact linkOf_congr p links
    · exact (linkOf_congr p links).trans (linkOf_send_other _ hp)

/-- A rewind frees the slot of the FILLING sweep and no other. -/
theorem rewind_slots (reason : SweepReason) (result notice counted : Bool) (s : State) (k : Fin 2) :
    (rewind reason result notice counted s).ingest.slots[k]'k.2
      = if (fillingSweep s).map Prod.fst = some k then .free else s.ingest.slots[k]'k.2 := by
  cases hf : fillingSweep s with
  | none => simp [rewind_none _ _ _ _ hf]
  | some f =>
    obtain ⟨i, w⟩ := f
    rw [(rewind_rewound reason result notice counted hf).ingest]
    simp [Vector.getElem_set, Fin.ext_iff]

theorem rewind_ingest (reason : SweepReason) (result notice counted : Bool) (s : State) :
    (rewind reason result notice counted s).ingest.hold = s.ingest.hold
      ∧ (rewind reason result notice counted s).ingest.stray = s.ingest.stray := by
  cases hf : fillingSweep s with
  | none => rw [rewind_none _ _ _ _ hf]; exact ⟨rfl, rfl⟩
  | some f => rw [(rewind_rewound reason result notice counted hf).ingest]; exact ⟨rfl, rfl⟩

theorem flushIngest_slots (s : State) (k : Fin 2) :
    (flushIngest s).ingest.slots[k]'k.2
      = if (∃ j ∈ s.drain.jobs, j.unstartedSweep = true ∧ j.slot? = some k) ∨ (fillingSweep s).map Prod.fst = some k then .free
        else s.ingest.slots[k]'k.2 := by
  have jobs : (rewindNoted .flushed s).drain = s.drain := (rewind_unchanged _ _ _ _ s).drain
  rw [flushIngest, (lowerAccepted_unchanged _ _).ingest, slots_removeJobs, jobs, rewindNoted, rewind_slots]
  by_cases job : ∃ j ∈ s.drain.jobs, j.unstartedSweep = true ∧ j.slot? = some k
  · rw [if_pos job, if_pos (.inl job)]
  · simp only [if_neg job, or_iff_right job]

theorem flushIngest_drain (s : State) :
    (flushIngest s).drain = { s.drain with jobs := s.drain.jobs.filter (fun j => !j.unstartedSweep) } := by
  rw [flushIngest, (lowerAccepted_unchanged _ _).drain, removeJobs_drain, rewindNoted, (rewind_unchanged _ _ _ _ s).drain]

set_option Elab.async false in
theorem flushIngest_sheets (s : State) (n : Nat) :
    sheetAt (flushIngest s) n = (sheetAt s n).map (loweredSheet (rowsOnTheirWay (flushIngest s) n)) := by
  have sheets : (removeJobs Job.unstartedSweep (rewindNoted .flushed s)).sheets = s.sheets :=
    (removeJobs_unchanged _ _).sheets.trans (rewind_unchanged _ _ _ _ s).sheets
  rw [flushIngest, sheetAt_lowerAccepted, sheetAt, sheets]
  rfl

/-- Beyond the slots, the jobs and the sheets a flush is its rewind. -/
theorem flushIngest_rest (s : State) :
    (flushIngest s).ingest.hold = s.ingest.hold
      ∧ Unchanged [.ingest, .drain, .buffers, .sheets] (rewindNoted .flushed s) (flushIngest s) := by
  refine ⟨?_, (((removeJobs_unchanged _ _).mono (by simp)).andThen (lowerAccepted_unchanged _ _))⟩
  rw [flushIngest, (lowerAccepted_unchanged _ _).ingest, (removeJobs_ingest _ _).1, rewindNoted, (rewind_ingest _ _ _ _ s).1]

/-- No load job is unstarted, so a flush leaves every buffer. -/
theorem flushIngest_buffers (s : State) : (flushIngest s).buffers = s.buffers := by
  refine Vector.ext fun b hb => ?_
  have := buffers_removeJobs Job.unstartedSweep ⟨b, hb⟩ (rewindNoted .flushed s)
  rw [if_neg] at this
  · exact (congrArg (fun v : Vector _ 4 => v[b]) (lowerAccepted_unchanged _ _).buffers).trans
      (this.trans (congrArg (fun v : Vector _ 4 => v[b]) (rewind_unchanged _ _ _ _ s).buffers))
  · rintro ⟨j, -, hj, hb⟩
    obtain ⟨k, n, y, rfl⟩ := unstartedSweep_iff.mp hj
    cases hb

end Flush

/-- Settles O21. -/
theorem ingestFlushDropsTheSweepJobsNotBegun : Obligations.IngestFlushDropsTheSweepJobsNotBegun := by
  unfold Obligations.IngestFlushDropsTheSweepJobsNotBegun
  intro s tag rest hq
  set q : Request := ⟨tag, .ingestFlush⟩ with hqdef
  set u := s.setCellQueue rest with hu
  have answered := answerRequest_unchanged q .done (flushIngest u)
  have same : fillingSweep u = fillingSweep s := rfl
  obtain ⟨hold, flushed⟩ := flushIngest_rest u
  have other : linkOf (flushIngest u) .c = linkOf s .c :=
    (linkOf_congr _ flushed.links).trans (rewind_linkOf_other (by decide) _ _ _ _ _)
  have tracer : linkOf (answerRequest q .done (flushIngest u)) .t = linkOf (rewindNoted .flushed u) .t :=
    (linkOf_send_other _ (by decide)).trans (linkOf_congr _ flushed.links)
  have sheets (n : Nat) : sheetAt (answerRequest q .done (flushIngest u)) n
      = (sheetAt s n).map (loweredSheet (rowsOnTheirWay (flushIngest u) n)) := by
    rw [sheetAt, answered.sheets]
    exact flushIngest_sheets u n
  refine ⟨answerRequest q .done (flushIngest u), takeRequest_front (act := fun s => answerRequest q .done (flushIngest s)) hq,
    ?_⟩
  rw [answered.drain, answered.ingest, answered.notices, answered.counters, answered.cellQueue, hold, flushed.notices,
    flushed.counters, flushed.cellQueue, tracer, flushIngest_drain]
  refine ⟨rfl, rfl, fun i n y job => ?_, fun i w hf => ?_, fun hf => ?_, fun i no_job not_filling => ?_, rfl,
    fun n x r hx hs hk => ?_, fun n other_kind => ?_, fun up => ?_, ?_, ?_⟩
  · rw [flushIngest_slots, if_pos (Or.inl (unstarted_in_slot_iff (s := u).mpr ⟨n, y, job⟩))]
  · have back : Rewound i w .flushed true true true u (rewindNoted .flushed u) := rewind_rewound _ _ _ _ (same.trans hf)
    rw [flushIngest_slots, if_pos (Or.inr (by rw [same, hf]; rfl)), back.notices, back.counters, linkOf_congr _ back.links]
    exact ⟨rfl, rfl, rfl, fun up => toSend_send (s := u) _ up⟩
  · have kept : rewindNoted .flushed u = u := rewind_none _ _ _ _ (same.trans hf)
    rw [kept]
    exact ⟨rfl, rfl, rfl⟩
  · rw [flushIngest_slots, if_neg]
    · rfl
    · rintro (job | filling)
      · obtain ⟨n, y, job⟩ := unstarted_in_slot_iff.mp job
        exact no_job n y job
      · obtain ⟨⟨_, w⟩, hf, rfl⟩ := Option.map_eq_some_iff.mp filling
        exact not_filling w (slot_of_fillingSweep hf)
  · rw [sheets, hx, Option.map_some, loweredSheet_scanning hs hk, rowsOnTheirWay_eq, flushIngest_drain, ← Nat.add_assoc] <;> rfl
  · rw [sheets]
    cases hx : sheetAt s n with
    | none => rfl
    | some x =>
      rw [Option.map_some]
      by_cases hs : x.state = .scanning
      · cases hk : x.kind with
        | relief r => exact absurd hk (other_kind x r hx hs)
        | letter f => rw [loweredSheet_letter hk]
      · rw [loweredSheet_other hs]
  · rw [toSend_answerRequest _ (by rwa [portUp, other]), other]
    rfl
  · exact (rewind_unchanged _ _ _ _ u).cellQueue
  · refine Unchanged.drop (b := .buffers) ?_ (answered.buffers.trans (flushIngest_buffers u))
    exact ((((setCellQueue_unchanged rest s).mono (by simp)).andThen (rewind_unchanged .flushed true true true u)).andThen
      flushed).andThen answered

end Sys2Proof.Machine
end

section
/-! SUPPORT. SWEEP_OPEN (R24, R25), SAMPLES (R26, R27), and the words of fill and load jobs (R39, R150). -/

namespace Sys2Proof.Machine

/- A proof is elaborated in a task of its own. `set_option Elab.async false in` before a theorem makes the compile wait there
for the proofs before it, so that only a few are under way at a time; the linters, which would keep every proof's syntax
tree, are off, so that the compile of the whole text stays within its memory. -/
set_option linter.all false

open Sys2Proof

/-- An event that has not been raised is not taken (log 1). -/
theorem takeEvent_not_due {due : Bool} {why : Fault} {act : State → State} {s : State} (hr : s.resetAsserted = false)
    (h : due = false) : takeEvent due why act s = .fault why := by
  simp [takeEvent, whileRunning, hr, h]

/-! ### SWEEP_OPEN -/

section SweepOpen

variable {s : State} {tag : Tag} {n d row : Nat} {x : Sheet} {r : Relief} {i : Fin 2}

theorem directionOf_of_le (h : d ≤ 1) : directionOf d = some (if d = 0 then .forward else .backward) := by
  obtain rfl | rfl : d = 0 ∨ d = 1 := by omega
  · rfl
  · rfl

theorem directionOf_outside (h : 2 ≤ d) : directionOf d = none := by
  match d, h with
  | _ + 2, _ => rfl

theorem isFree_iff {x : Slot} : x.isFree = true ↔ x = .free := by
  cases x <;> simp [Slot.isFree]

theorem freeSlot_none (h : ∀ i : Fin 2, s.ingest.slots[i]'i.2 ≠ .free) : freeSlot s = none := by
  rw [freeSlot, if_neg (mt isFree_iff.mp (h 0)), if_neg (mt isFree_iff.mp (h 1))]

/-- Slot 0 is taken where it is FREE, and slot 1 otherwise (R25). -/
theorem freeSlot_some (h : ∃ i : Fin 2, s.ingest.slots[i]'i.2 = .free) :
    ∃ i, freeSlot s = some i ∧ (i = 0 ↔ s.ingest.slots[(0 : Fin 2)] = .free) := by
  by_cases h0 : s.ingest.slots[(0 : Fin 2)] = .free
  · exact ⟨0, if_pos (isFree_iff.mpr h0), fun _ => h0, fun _ => rfl⟩
  · obtain ⟨i, hi⟩ := h
    obtain rfl | rfl : i = 0 ∨ i = 1 := by omega
    · exact absurd hi h0
    · refine ⟨1, ?_, nofun, fun e => absurd e h0⟩
      rw [freeSlot, if_neg (mt isFree_iff.mp h0), if_pos (isFree_iff.mpr hi)]

/-- The first four checks of R24 pass. -/
structure OpenAdmitted (s : State) (n d : Nat) (x : Sheet) (r : Relief) : Prop where
  released : s.ingest.hold = false
  direction : d ≤ 1
  sheet : sheetAt s n = some x
  kind : x.kind = .relief r
  not_ready : x.state ≠ .ready
  not_retiring : x.state ≠ .retiring

theorem refusal_held (h : s.ingest.hold = true) : sweepOpenRefusal s n d row = some (.held, row) := if_pos h

theorem refusal_badValue (h : s.ingest.hold = false) (hd : 2 ≤ d) : sweepOpenRefusal s n d row = some (.badValue, row) := by
  simp [sweepOpenRefusal, h, directionOf_outside hd]

theorem refusal_free (h : s.ingest.hold = false) (hd : d ≤ 1) (hx : sheetAt s n = none) :
    sweepOpenRefusal s n d row = some (.noSheet, row) := by
  simp [sweepOpenRefusal, h, directionOf_of_le hd, hx]

theorem refusal_retiring (h : s.ingest.hold = false) (hd : d ≤ 1) (hx : sheetAt s n = some x) (hs : x.state = .retiring) :
    sweepOpenRefusal s n d row = some (.noSheet, row) := by
  simp [sweepOpenRefusal, h, directionOf_of_le hd, hx, hs]

theorem refusal_letter {f : Nat} (h : s.ingest.hold = false) (hd : d ≤ 1) (hx : sheetAt s n = some x)
    (hs : x.state ≠ .retiring) (hk : x.kind = .letter f) : sweepOpenRefusal s n d row = some (.wrongKind, row) := by
  simp [sweepOpenRefusal, h, directionOf_of_le hd, hx, hs, hk]

theorem refusal_ready (h : s.ingest.hold = false) (hd : d ≤ 1) (hx : sheetAt s n = some x) (hk : x.kind = .relief r)
    (hs : x.state = .ready) : sweepOpenRefusal s n d row = some (.noSheet, row) := by
  simp [sweepOpenRefusal, h, directionOf_of_le hd, hx, hs, hk]

theorem OpenAdmitted.refusal (h : OpenAdmitted s n d x r) :
    sweepOpenRefusal s n d row
      = if row ≠ r.accepted ∨ x.geom.height ≤ row then some (.rowOrder, r.accepted)
        else if r.written + 2 ≤ r.accepted then some (.slotsFull, row)
        else if (fillingSweep s).isNone ∧ (freeSlot s).isNone then some (.slotsFull, row)
        else none := by
  simp [sweepOpenRefusal, h.released, directionOf_of_le h.direction, h.sheet, h.kind, h.not_ready, h.not_retiring]

/-- A refused open makes its SWEEP_RESULT and changes nothing (R24, R33). -/
theorem exec_sweepOpen_refused {reason : SweepReason} {y : Nat} (hl : Listening .t s)
    (h : sweepOpenRefusal s n d row = some (reason, y)) :
    ∃ t, exec (.sweepOpen tag n d row) s = .next t
      ∧ t.links = (send .t (.sweepResult tag .refused y reason) (afterGoodRecord .t s)).links ∧ Unchanged [.links] s t := by
  have refused : takeSweepOpen tag n d row (afterGoodRecord .t s) = sendSweepResult tag .refused y reason (afterGoodRecord .t s) := by
    have h' : sweepOpenRefusal (afterGoodRecord .t s) n d row = some (reason, y) := h
    rw [takeSweepOpen, h']
  refine ⟨_, takeRecord_listening hl, ?_⟩
  rw [refused]
  exact ⟨rfl, (afterGoodRecord_unchanged .t s).andThen (send_unchanged _ _ _)⟩

theorem sweepTarget_of_filling {w : Sweep} (hf : fillingSweep s = some (i, w)) : sweepTarget s = some i := by
  simp [sweepTarget, hf]

set_option Elab.async false in
theorem sweepTarget_of_none (hf : fillingSweep s = none) : sweepTarget s = freeSlot s := by
  simp [sweepTarget, hf]

/-- An open that passes fills its slot with an empty sweep, after the rewind of the one it supersedes (R25). -/
theorem takeSweepOpen_passes {dir : Direction} (h : sweepOpenRefusal s n d row = none) (hi : sweepTarget s = some i)
    (hd : directionOf d = some dir) :
    takeSweepOpen tag n d row s = setSlot i (.filling (newSweep tag n row dir)) (rewindQuietly .superseded s) := by
  simp [takeSweepOpen, h, hi, hd]

end SweepOpen

/-- Settles O22. -/
theorem sweepOpenStartsASweepOrIsRefused : Obligations.SweepOpenStartsASweepOrIsRefused := by
  unfold Obligations.SweepOpenStartsASweepOrIsRefused
  refine ⟨fun s tag n d row x r hl hold hd hx hs hk hrow inside room place => ?_, fun s tag n d row hl => ?_⟩
  · set u := afterGoodRecord .t s with hu
    have admitted : OpenAdmitted u n d x r := ⟨hold, hd, hx, hk, by simp [hs], by simp [hs]⟩
    have good : Unchanged [.ingest, .links, .counters] s u := (afterGoodRecord_unchanged .t s).mono (by simp)
    have passes (free : ¬ ((fillingSweep u).isNone ∧ (freeSlot u).isNone)) : sweepOpenRefusal u n d row = none := by
      rw [admitted.refusal, if_neg (by omega), if_neg (by omega), if_neg free]
    cases hf : fillingSweep s with
    | some f =>
      obtain ⟨j, w⟩ := f
      have hf' : fillingSweep u = some (j, w) := hf
      have back : Rewound j w .superseded true false true u (rewindQuietly .superseded u) := rewind_rewound _ _ _ _ hf'
      refine ⟨_, j, takeRecord_listening hl, ?_⟩
      rw [takeSweepOpen_passes (passes (by simp [hf'])) (sweepTarget_of_filling hf') (directionOf_of_le hd)]
      have slots (y : Slot) : (setSlot j y (rewindQuietly .superseded u)).ingest
          = { s.ingest with slots := s.ingest.slots.set j y } := by
        simp only [setSlot, State.setIngest_ingest, back.ingest, Vector.set_set]
        rfl
      rw [slots]
      refine ⟨rfl, rfl, rfl, ?_, nofun, ?_⟩
      · rintro _ _ ⟨⟩
        refine ⟨rfl, ?_, back.counters⟩
        have sent : (linkOf (rewindQuietly .superseded u) .t).toSend
            = (linkOf u .t).toSend ++ [.sweepResult w.tag .rewound w.row .superseded] := by
          rw [linkOf_congr _ back.links]
          exact toSend_send _ (portUp_afterGoodRecord hl.2)
        exact sent.trans (by rw [hu, linkOf_afterGoodRecord])
      · have frame : Unchanged [.notices, .ingest, .links, .counters] s (rewindQuietly .superseded u) :=
          (good.mono (by simp)).andThen back.unchanged
        exact (frame.drop back.notices).andThen (setSlot_unchanged _ _ _)
    | none =>
      have hf' : fillingSweep u = none := hf
      obtain ⟨i, hi, low⟩ := freeSlot_some (s := u) (place.resolve_left (by simp [hf]))
      have kept : rewindQuietly .superseded u = u := rewind_none _ _ _ _ hf'
      refine ⟨_, i, takeRecord_listening hl, ?_⟩
      rw [takeSweepOpen_passes (passes (by simp [hi])) ((sweepTarget_of_none hf').trans hi) (directionOf_of_le hd), kept]
      exact ⟨rfl, rfl, rfl, nofun, fun _ => ⟨low, rfl, rfl⟩, good.andThen (setSlot_unchanged _ _ _)⟩
  · refine ⟨fun h => exec_sweepOpen_refused hl (refusal_held h), fun h hd => exec_sweepOpen_refused hl (refusal_badValue h hd),
      fun h hd hx => exec_sweepOpen_refused hl (refusal_free h hd hx), fun x h hd hx =>
        ⟨fun hs => exec_sweepOpen_refused hl (refusal_retiring h hd hx hs),
         fun f hs hk => exec_sweepOpen_refused hl (refusal_letter h hd hx hs hk), fun r hk =>
          ⟨fun hs => exec_sweepOpen_refused hl (refusal_ready h hd hx hk hs), fun ready retiring => ?_⟩⟩⟩
    have admitted : OpenAdmitted s n d x r := ⟨h, hd, hx, hk, ready, retiring⟩
    refine ⟨fun order => exec_sweepOpen_refused hl ?_, fun hrow inside full => exec_sweepOpen_refused hl ?_,
      fun hrow inside room hf no_slot => exec_sweepOpen_refused hl ?_⟩
    · rw [admitted.refusal, if_pos order]
    · rw [admitted.refusal, if_neg (by omega), if_pos full]
    · rw [admitted.refusal, if_neg (by omega), if_neg (by omega), if_pos (by simp [hf, freeSlot_none no_slot])]

/-! ### SAMPLES -/

section Samples

variable {s : State} {i : Fin 2} {w v : Sweep} {x : Sheet} {width : Nat} {policy : DropPolicy} {counts : DropCounts}

/-- The fields of a sweep that its samples leave. -/
def SameSweep (w v : Sweep) : Prop := v.tag = w.tag ∧ v.sheet = w.sheet ∧ v.row = w.row ∧ v.direction = w.direction

/-- A sample within the row joins the samples at the end that the direction gives (R26). -/
theorem placeSample_samples (w : Sweep) (c : Code) :
    (placeSample w c).samples = if w.direction = .forward then w.samples ++ [c] else c :: w.samples := by
  unfold placeSample
  cases w.direction <;> rfl

theorem takeSample_same (width : Nat) (policy : DropPolicy) (st : Sweep × DropCounts) (a : Code × Bool) :
    SameSweep st.1 (takeSample width policy st a).1 := by
  unfold takeSample
  dsimp only
  split
  · exact ⟨rfl, rfl, rfl, rfl⟩
  · split
    · split <;> exact ⟨rfl, rfl, rfl, rfl⟩
    · exact ⟨rfl, rfl, rfl, rfl⟩

/-- Beyond the width a sample is discarded (R26). -/
theorem takeSample_long (h : width ≤ w.received) (a : Code × Bool) :
    takeSample width policy (w, counts) a = ({ w with check := crcCode w.check a.1, long := true }, counts) := if_pos h

/-- A sample that is no dropout is placed, VOID as 65,534 (R26). -/
theorem takeSample_good (h : w.received < width) (c : Code) :
    takeSample width policy (w, counts) (c, false)
      = ({ placeSample { w with check := crcCode w.check c } (if c = voidCode then 65534 else c) with
            lastGood := some (if c = voidCode then 65534 else c) }, counts) := by
  unfold takeSample
  dsimp only
  rw [if_neg (Nat.not_le.2 h), if_neg (by simp)]

/-- A dropout under HOLD repeats the last good sample (R27). -/
theorem takeSample_hold {g : Code} (h : w.received < width) (c : Code) (hg : w.lastGood = some g) :
    takeSample width .hold (w, counts) (c, true)
      = (placeSample { w with check := crcCode w.check c } g, counts.1, saturate counts.2) := by
  unfold takeSample
  dsimp only
  rw [if_neg (Nat.not_le.2 h), if_pos rfl, hg]

/-- Any other dropout is VOID (R27). -/
theorem takeSample_void (h : w.received < width) (c : Code) (hp : policy = .void ∨ w.lastGood = none) :
    takeSample width policy (w, counts) (c, true)
      = (placeSample { w with check := crcCode w.check c } voidCode, saturate counts.1, counts.2) := by
  unfold takeSample
  dsimp only
  rw [if_neg (Nat.not_le.2 h), if_pos rfl]
  cases policy with
  | void => rfl
  | hold => rw [hp.resolve_left nofun]

/-- What one sample does to its sweep and to the dropout counts (R26, R27). -/
def SampleTaken (width : Nat) (policy : DropPolicy) (c : Code) (drop : Bool) (w : Sweep) (voids helds : Nat)
    (v : Sweep) (voids' helds' : Nat) : Prop :=
  (width ≤ w.received → v.long = true ∧ v.received = w.received ∧ v.samples = w.samples ∧ v.lastGood = w.lastGood
    ∧ voids' = voids ∧ helds' = helds)
  ∧ (w.received < width → v.long = w.long ∧ v.received = w.received + 1 ∧
      ∃ placed : Code, v.samples = (if w.direction = .forward then w.samples ++ [placed] else placed :: w.samples)
        ∧ (drop = false → placed = (if c = 65535 then 65534 else c) ∧ v.lastGood = some placed
            ∧ voids' = voids ∧ helds' = helds)
        ∧ (drop = true → v.lastGood = w.lastGood)
        ∧ (∀ g, drop = true → policy = .hold → w.lastGood = some g →
            placed = g ∧ voids' = voids ∧ helds' = min (helds + 1) 4294967295)
        ∧ (drop = true → policy = .void ∨ w.lastGood = none →
            placed = 65535 ∧ voids' = min (voids + 1) 4294967295 ∧ helds' = helds))

theorem takeSample_check (width : Nat) (policy : DropPolicy) (st : Sweep × DropCounts) (a : Code × Bool) :
    (takeSample width policy st a).1.check = crcCode st.1.check a.1 := by
  unfold takeSample
  dsimp only
  split
  · rfl
  · split
    · split <;> rfl
    · rfl

theorem takeSample_taken (width : Nat) (policy : DropPolicy) (c : Code) (drop : Bool) (w : Sweep) (voids helds : Nat) :
    let st := takeSample width policy (w, voids, helds) (c, drop)
    SampleTaken width policy c drop w voids helds st.1 st.2.1 st.2.2 := by
  by_cases long : width ≤ w.received
  · rw [takeSample_long long]
    exact ⟨fun _ => ⟨rfl, rfl, rfl, rfl, rfl, rfl⟩, fun h => absurd long (by omega)⟩
  · have room := Nat.lt_of_not_le long
    refine ⟨fun h => absurd h long, fun _ => ?_⟩
    cases drop with
    | false =>
      rw [takeSample_good room]
      exact ⟨rfl, rfl, _, placeSample_samples _ _, fun _ => ⟨rfl, rfl, rfl, rfl⟩, nofun, nofun, nofun⟩
    | true =>
      by_cases void : policy = .void ∨ w.lastGood = none
      · rw [takeSample_void room c void]
        refine ⟨rfl, rfl, _, placeSample_samples _ _, nofun, fun _ => rfl, fun g _ hp hg => ?_, fun _ _ => ⟨rfl, rfl, rfl⟩⟩
        rcases void with h | h
        · rw [hp] at h
          cases h
        · rw [hg] at h
          cases h
      · obtain ⟨not_void, good⟩ := not_or.mp void
        have hp : policy = .hold := by cases policy <;> simp_all
        obtain ⟨g, hg⟩ := Option.ne_none_iff_exists'.mp good
        rw [hp, takeSample_hold room c hg]
        refine ⟨rfl, rfl, _, placeSample_samples _ _, nofun, fun _ => rfl, fun g' _ _ hg' => ?_,
          fun _ h => absurd (hp ▸ h) void⟩
        rw [hg] at hg'
        cases hg'
        exact ⟨rfl, rfl, rfl⟩

/-- The state after samples have been taken into the sweep of slot `i`. -/
def samplesTaken (i : Fin 2) (n : Nat) (x : Sheet) (st : Sweep × DropCounts) (s : State) : State :=
  setSheet n (some { x with voidCount := st.2.1, heldCount := st.2.2 }) (setSlot i (.filling st.1) s)

theorem takeSamples_filling (hf : fillingSweep s = some (i, w)) (hx : sheetAt s w.sheet = some x) (xs : List (Code × Bool)) :
    takeSamples xs s = samplesTaken i w.sheet x
      (xs.foldl (takeSample x.geom.width (policyOfSheet x)) (w, x.voidCount, x.heldCount)) s := by
  simp only [takeSamples, hf, hx]
  rfl

theorem samplesTaken_unchanged (i : Fin 2) (n : Nat) (x : Sheet) (st : Sweep × DropCounts) (s : State) :
    Unchanged [.ingest, .sheets] s (samplesTaken i n x st s) :=
  ((setSlot_unchanged _ _ s).mono (by simp)).andThen (setSheet_unchanged _ _ _)

theorem fillingSweep_samplesTaken {n : Nat} {st : Sweep × DropCounts} (hf : fillingSweep s = some (i, w)) :
    fillingSweep (samplesTaken i n x st s) = some (i, st.1) := by
  have slot (k : Fin 2) : (samplesTaken i n x st s).ingest.slots[k]'k.2
      = if i = k then .filling st.1 else s.ingest.slots[k]'k.2 := slots_setSlot _ k
  unfold fillingSweep at hf ⊢
  rw [slot, slot]
  obtain rfl | rfl : i = 0 ∨ i = 1 := by omega
  · simp [Slot.filling?]
  · split at hf
    · cases hf
    · rename_i none0
      rw [if_neg (by decide), none0]
      rfl

/-- Samples taken twice into one slot are as the second taking left them. -/
theorem samplesTaken_twice (n : Nat) (st st' : Sweep × DropCounts) :
    samplesTaken i n { x with voidCount := st.2.1, heldCount := st.2.2 } st' (samplesTaken i n x st s)
      = samplesTaken i n x st' s := by
  simp [samplesTaken, setSheet, setSlot, State.setSheets, State.setIngest, Vector.set_set,
    Vector.setIfInBounds_setIfInBounds]

theorem takeSamples_cons (hf : fillingSweep s = some (i, w)) (hx : sheetAt s w.sheet = some x) (a : Code × Bool)
    (xs : List (Code × Bool)) : takeSamples (a :: xs) s = takeSamples xs (takeSamples [a] s) := by
  set st := takeSample x.geom.width (policyOfSheet x) (w, x.voidCount, x.heldCount) a with hst
  have first : takeSamples [a] s = samplesTaken i w.sheet x st s := takeSamples_filling hf hx [a]
  have same : st.1.sheet = w.sheet := (takeSample_same _ _ _ a).2.1
  have hx' : sheetAt (samplesTaken i w.sheet x st s) st.1.sheet = some { x with voidCount := st.2.1, heldCount := st.2.2 } := by
    rw [same]
    exact sheetAt_setSheet_same (s := setSlot i _ s) _ hx
  rw [first, takeSamples_filling (fillingSweep_samplesTaken hf) hx', takeSamples_filling hf hx, same, samplesTaken_twice]
  rfl

set_option Elab.async false in
theorem afterGoodRecord_of_bad {p : Port} (h : (linkOf s p).bad = 0) : afterGoodRecord p s = s := by
  have same : { linkOf s p with bad := 0 } = linkOf s p := by rw [← h]
  rw [afterGoodRecord, same]
  simp [setLink, linkOf, State.setLinks]

end Samples

/-- Settles O23. -/
theorem samplesArePlacedByDirectionAndPolicy : Obligations.SamplesArePlacedByDirectionAndPolicy := by
  unfold Obligations.SamplesArePlacedByDirectionAndPolicy
  refine ⟨fun s tag c drop i w x r hl hf hx hk => ?_, fun s tag a xs i w x hl hf hx => ?_⟩
  · set u := afterGoodRecord .t s with hu
    have hf' : fillingSweep u = some (i, w) := hf
    have hx' : sheetAt u w.sheet = some x := hx
    have policy : policyOfSheet x = r.policy := by simp [policyOfSheet, hk]
    set st := takeSample x.geom.width r.policy (w, x.voidCount, x.heldCount) (c, drop) with hst
    refine ⟨samplesTaken i w.sheet x st u, st.1, st.2.1, st.2.2, ?_, rfl, rfl, ?_⟩
    · refine (takeRecord_listening hl).trans (congrArg Host.Outcome.next ?_)
      rw [takeSamples_filling hf' hx', policy]
      rfl
    · obtain ⟨htag, hsheet, hrow, hdir⟩ := takeSample_same x.geom.width r.policy (w, x.voidCount, x.heldCount) (c, drop)
      obtain ⟨beyond, within⟩ := takeSample_taken x.geom.width r.policy c drop w x.voidCount x.heldCount
      exact ⟨takeSample_check _ _ _ _, htag, hsheet, hrow, hdir, beyond, within,
        ((afterGoodRecord_unchanged .t s).mono (by simp)).andThen (samplesTaken_unchanged _ _ _ _ _)⟩
  · set u := takeSamples [a] (afterGoodRecord .t s) with hu
    have hf' : fillingSweep (afterGoodRecord .t s) = some (i, w) := hf
    have hx' : sheetAt (afterGoodRecord .t s) w.sheet = some x := hx
    have kept : Unchanged [.ingest, .sheets] (afterGoodRecord .t s) u := by
      rw [hu, takeSamples_filling hf' hx']
      exact samplesTaken_unchanged _ _ _ _ _
    have link : linkOf u .t = { linkOf s .t with bad := 0 } :=
      (linkOf_congr _ kept.links).trans (linkOf_afterGoodRecord .t s)
    have hl' : Listening .t u :=
      ⟨kept.resetInput.trans hl.1, (congrArg Link.up link).trans hl.2⟩
    refine ⟨u, takeSamples xs u, takeRecord_listening hl, ?_, ?_⟩
    · refine (takeRecord_listening hl').trans ?_
      rw [afterGoodRecord_of_bad (congrArg Link.bad link)]
    · refine (takeRecord_listening hl).trans ?_
      rw [takeSamples_cons hf' hx']

/-! ### Fill and load jobs -/

section Jobs

variable {s : State} {n k x y w h j a : Nat} {sh : Sheet} {b : Fin 4}

theorem jobLength_fill (hx : sheetAt s n = some sh) : jobLength s (.fill n k) = extentOf sh.geom * 256 := by
  simp [jobLength, geometryOf_of_sheetAt hx]

theorem feederReady_false (h : s.drain.jobs = [] ∨ 64 ≤ s.drain.queue.length) : feederReady s = false := by
  unfold feederReady
  split
  · rfl
  · rename_i j rest jobs
    have full := h.resolve_left (by simp [jobs])
    simp [Nat.not_lt.2 full]

/-- The words of a load job lie row by row, each row's in rising order (R150). -/
theorem load_position (ha : a ≤ (x + w - 1) / 4 - x / 4) :
    (j * wordsPerRow x w + a) / wordsPerRow x w = j ∧ (j * wordsPerRow x w + a) % wordsPerRow x w = a := by
  have inside : a < wordsPerRow x w := by
    unfold wordsPerRow
    omega
  rw [Nat.mul_comm]
  exact ⟨by rw [Nat.mul_add_div (by omega), Nat.div_eq_of_lt inside, Nat.add_zero],
    by rw [Nat.mul_add_mod, Nat.mod_eq_of_lt inside]⟩

theorem load_lt (ha : a ≤ (x + w - 1) / 4 - x / 4) (hj : j < h) : j * wordsPerRow x w + a < h * wordsPerRow x w :=
  calc j * wordsPerRow x w + a < j * wordsPerRow x w + wordsPerRow x w := by
        unfold wordsPerRow
        omega
    _ = (j + 1) * wordsPerRow x w := (Nat.succ_mul _ _).symm
    _ ≤ h * wordsPerRow x w := Nat.mul_le_mul_right _ hj

/-- The last word of a load job is the last of its last row. -/
theorem load_last_iff (ha : a ≤ (x + w - 1) / 4 - x / 4) (hj : j < h) :
    j * wordsPerRow x w + a + 1 = h * wordsPerRow x w ↔ j + 1 = h ∧ a = (x + w - 1) / 4 - x / 4 := by
  constructor
  · intro e
    have last : j + 1 = h := by
      by_contra more
      have := load_lt (h := h) ha (j := j + 1) (by omega)
      rw [Nat.succ_mul] at this
      unfold wordsPerRow at e this
      omega
    subst last
    rw [Nat.succ_mul] at e
    unfold wordsPerRow at e
    exact ⟨rfl, by omega⟩
  · rintro ⟨rfl, rfl⟩
    rw [Nat.succ_mul]
    unfold wordsPerRow
    omega

theorem getLsbD_laneMask (p : Nat → Bool) (l : Fin 4) : (laneMask p).getLsbD l = p l := by
  have bits : ∀ (a b c d : Bool) (l : Fin 4),
      ((BitVec.ofBool d ++ BitVec.ofBool c) ++ (BitVec.ofBool b ++ BitVec.ofBool a)).getLsbD l = ![a, b, c, d] l := by decide
  rw [laneMask, bits]
  fin_cases l <;> rfl

/-- A lane inside the rectangle holds its code, row by row (R150). -/
theorem lane_loadEntry {codes : List Code} (hb : s.buffers[b]'b.2 = some codes) (hlen : codes.length = w * h) (hj : j < h)
    (ha : a ≤ (x + w - 1) / 4 - x / 4) (l : Fin 4) (lo : x ≤ 4 * (x / 4 + a) + l) (hi : 4 * (x / 4 + a) + l < x + w) :
    codes[j * w + (4 * (x / 4 + a) + l - x)]?
      = some (lane (loadEntry s b n x y w (j * wordsPerRow x w + a)).codes l) := by
  have place : j * w + (4 * (x / 4 + a) + l - x) < codes.length := by
    rw [hlen, Nat.mul_comm w h]
    calc j * w + (4 * (x / 4 + a) + l - x) < j * w + w := by omega
      _ = (j + 1) * w := (Nat.succ_mul _ _).symm
      _ ≤ h * w := Nat.mul_le_mul_right _ hj
  obtain ⟨row, word⟩ := load_position (j := j) ha
  rw [loadEntry, lane_wordOfLanes, row, word, hb]
  simp [lo, hi, List.getElem?_eq_getElem place]

set_option Elab.async false in
/-- A load job's buffer becomes FREE at its last entry and stays till then (R37). -/
theorem entryMade_load_buffers (rest : List Job) :
    (entryMade (.load b n x y w h k) rest s).buffers
      = if k + 1 = h * wordsPerRow x w then s.buffers.set b none else s.buffers := by
  unfold entryMade
  dsimp only
  split
  · rename_i last
    rw [if_pos (show k + 1 = h * wordsPerRow x w from last)]
    rfl
  · rename_i more
    rw [if_neg (show ¬ k + 1 = h * wordsPerRow x w from more)]
    exact (startDraining_unchanged _ _).buffers

end Jobs

/-- Settles O27. -/
theorem fillAndLoadJobsMakeTheirWords : Obligations.FillAndLoadJobsMakeTheirWords := by
  unfold Obligations.FillAndLoadJobsMakeTheirWords
  refine fun s hr => ⟨fun n k x rest hjobs room hx hk => ?_, fun b n x y w h j a sh codes rest hjobs room hsh hb hlen hw hj ha =>
    ?_, fun waits =>
      takeEvent_not_due (act := fun s => choose (makeEntry s)) hr (feederReady_false waits)⟩
  · have length := jobLength_fill (k := k) hx
    obtain ⟨t, step, drain, -, -, -, mode, chosen⟩ := exec_feederMakeEntry hr hjobs (length ▸ hk) room
    refine ⟨t, fillEntry s n k, step, ?_, rfl, ?_, rfl, rfl, rfl, rfl, rfl, rfl, ?_, mode, chosen⟩
    · rw [drain]
      exact List.getLast?_concat
    · rw [fillEntry, geometryOf_of_sheetAt hx]
    · rw [drain, length]
      rfl
  · have per : (x + w - 1) / 4 - x / 4 + 1 = wordsPerRow x w := rfl
    rw [per] at hjobs
    rw [per]
    set k := j * wordsPerRow x w + a with hk
    obtain ⟨t, step, drain, -, buffers, -, mode, chosen⟩ := exec_feederMakeEntry hr hjobs (load_lt ha hj) room
    obtain ⟨row, word⟩ := load_position (j := j) ha
    have lanes : (loadEntry s b n x y w k).lanes
        = laneMask (fun l => decide (x ≤ 4 * (x / 4 + a) + l) && decide (4 * (x / 4 + a) + l < x + w)) := by
      rw [loadEntry, hk, word]
    refine ⟨t, loadEntry s b n x y w k, step, ?_, rfl, ?_, ?_, rfl, rfl, fun l => ⟨?_, fun lo hi => ?_⟩, rfl, ?_, mode, chosen⟩
    · rw [drain]
      exact List.getLast?_concat
    · rw [loadEntry, hk, row, word, geometryOf_of_sheetAt hsh]
    · rw [loadEntry, hk, row, word]
    · rw [lanes, getLsbD_laneMask]
      simp
    · exact lane_loadEntry hb hlen hj ha l lo hi
    · have last := load_last_iff ha hj
      rw [buffers, entryMade_load_buffers, drain]
      split
      · rename_i ends
        have ends := last.mpr ends
        refine ⟨if_pos ends, ?_⟩
        rw [if_pos ends]
        simp
      · rename_i more
        have more := mt last.mp more
        exact ⟨if_neg more, if_neg more⟩

end Sys2Proof.Machine
end

section
/-! SUPPORT. Sources raised, the deadline flag judged, and the replies made to a list of records: what each changes. Then
SPINDLE_RETRACT and SPINDLE_RESUME (R73, R74), TOUCH_OFF (R70, R71), the queries answered at arrival (R82), the urgency
point (R52) and the alarm firings (R57). -/

namespace Sys2Proof.Machine

/- A proof is elaborated in a task of its own. `set_option Elab.async false in` before a theorem makes the compile wait there
for the proofs before it, so that only a few are under way at a time; the linters, which would keep every proof's syntax
tree, are off, so that the compile of the whole text stays within its memory. -/
set_option linter.all false

open Sys2Proof

/-! ### Sources raised (R175, R177) -/

section Raise

variable {s : State} {src : SourceSet}

theorem raise_notices (src : SourceSet) (s : State) :
    (raise src s).notices = { s.notices with pending := s.notices.pending ||| src } := by
  unfold raise
  dsimp only
  split
  · exact (makeNotice_unchanged _).notices
  · rfl

theorem raise_linkOf_other {p : Port} (src : SourceSet) (s : State) (hp : p ≠ .c) : linkOf (raise src s) p = linkOf s p := by
  unfold raise
  dsimp only
  split
  · exact linkOf_send_other _ hp
  · rfl

/-- An urgent source that was not pending and is enabled makes its NOTICE at once, on a port that is UP. -/
theorem raise_toSend (src : SourceSet) (s : State) :
    (linkOf (raise src s) .c).toSend = (linkOf s .c).toSend
      ++ (if portUp s .c = true ∧ s.notices.pending &&& src = 0 ∧ src &&& urgentSources ≠ 0
            ∧ src &&& s.settings.noticeEnables ≠ 0
          then [.notice ((s.notices.pending ||| src) &&& s.settings.noticeEnables) s.time.frame (modeOf s)] else []) := by
  unfold raise
  dsimp only
  split
  · rename_i notice
    set u := s.setNotices { s.notices with pending := s.notices.pending ||| src } with hu
    by_cases up : portUp s .c = true
    · rw [if_pos ⟨up, notice⟩]
      exact toSend_send (s := u) _ up
    · have down : portUp u .c = false := Bool.eq_false_iff.mpr up
      rw [if_neg (fun h => up h.1), List.append_nil, makeNotice, send_down _ down]
      rfl
  · rename_i quiet
    rw [if_neg (fun h => quiet h.2)]
    exact (List.append_nil _).symm

end Raise

/-! ### The deadline flag judged (R111) -/

section Deadline

variable (s : State)

theorem deadlineWanted_iff :
    deadlineWanted s = true ↔ ∃ r ∈ s.queries.records, r.urgent = true ∧ ∃ f ∈ r.fetches, f.state = .waiting := by
  simp [deadlineWanted, Fetch.isWaiting]

theorem judgeDeadline_sched : (judgeDeadline s).sched = { s.sched with deadline := deadlineWanted s } := by
  unfold judgeDeadline
  dsimp only
  split
  · exact (count_unchanged _ _).sched
  · rfl

theorem judgeDeadline_counters : (judgeDeadline s).counters
    = if s.sched.deadline = false ∧ deadlineWanted s = true then s.counters.set cntDeadline (s.counters[cntDeadline]'cntDeadline.2 + 1)
      else s.counters := by
  unfold judgeDeadline
  dsimp only
  by_cases entered : s.sched.deadline = false ∧ deadlineWanted s = true
  · rw [if_pos (by simp [entered]), if_pos entered]
    exact count_counters_of_eq _ rfl
  · rw [if_neg (by simpa [and_comm] using entered), if_neg entered]
    rfl

theorem deadlineLawful_judgeDeadline : DeadlineLawful (judgeDeadline s) := by
  rw [DeadlineLawful, judgeDeadline_sched, (judgeDeadline_unchanged s).queries]
  exact deadlineWanted_iff s

end Deadline

theorem getElem_set_counter {k j : Fin 28} (v : Vector Count32 28) (x : Count32) :
    (v.set k x)[j]'j.2 = if k = j then x else v[j]'j.2 := by
  simp [Vector.getElem_set, Fin.ext_iff]

theorem count_counters (k : Fin 28) (s : State) : (count k s).counters = s.counters.set k (s.counters[k]'k.2 + 1) := rfl

/-- The reply counters stay where no reply counter is the one that moved. -/
theorem repliesCounted_of_same {s t : State} (h : ∀ k ∈ [cntCut, cntHeldVoid, cntHeldAhead, cntHeldLate, cntOtherHeld],
    t.counters[k]'k.2 = s.counters[k]'k.2) : RepliesCounted 0 0 0 0 0 s t := by
  simp only [List.forall_mem_cons] at h
  obtain ⟨h₁, h₂, h₃, h₄, h₅, -⟩ := h
  simp [RepliesCounted, h₁, h₂, h₃, h₄, h₅]

/-! ### Replies to a list of records (R72, R96, R97) -/

section Replies

variable {s t u : State} {o : DepthOutcome} {cut : Nat → QueryRecord → Nat} {rs : List QueryRecord}

/-- The replies to records of one spindle, oldest first, where each cut follows from the held depth that the reply before it
left. -/
def repliesBy (cut : Nat → QueryRecord → Nat) (o : DepthOutcome) (frame : FrameNumber) : Nat → List QueryRecord → List OutRecord
  | _, [] => []
  | held, r :: rs =>
    .depthReply r.tag (frame.setWidth 16) (cut held r) r.correction o noModifiers :: repliesBy cut o frame (cut held r) rs

theorem repliesBy_min (o : DepthOutcome) (frame : FrameNumber) (held : Nat) (rs : List QueryRecord) :
    repliesBy (fun h r => min h r.floor) o frame held rs = heldReplies o frame held rs := by
  induction rs generalizing held with
  | nil => rfl
  | cons r rs ih => rw [repliesBy, heldReplies_cons, ih]

theorem repliesBy_zero (o : DepthOutcome) (frame : FrameNumber) (held : Nat) (rs : List QueryRecord) :
    repliesBy (fun _ _ => 0) o frame held rs
      = rs.map (fun r => .depthReply r.tag (frame.setWidth 16) 0 r.correction o noModifiers) := by
  induction rs generalizing held with
  | nil => rfl
  | cons r rs ih => rw [repliesBy, List.map_cons, ih]

/-- The records of a spindle. -/
def ofSpindle (m : Fin 6) (rs : List QueryRecord) : List QueryRecord := rs.filter (fun r => r.spindle == m)

/-- Records have been answered with one outcome, oldest first, from `s` to `t`. -/
structure RepliedTo (cut : Nat → QueryRecord → Nat) (o : DepthOutcome) (rs : List QueryRecord) (s t : State) : Prop where
  spindles : ∀ m : Fin 6,
    t.spindles[m]'m.2 = { s.spindles[m]'m.2 with held := (ofSpindle m rs).foldl cut (s.spindles[m]'m.2).held }
  links : ∀ m : Fin 6, linkOf t (.s m) = { linkOf s (.s m) with
    toSend := if portUp s (.s m) then (linkOf s (.s m)).toSend
        ++ repliesBy cut o s.time.frame (s.spindles[m]'m.2).held (ofSpindle m rs) else (linkOf s (.s m)).toSend }
  others : ∀ p : Port, (∀ m, p ≠ .s m) → linkOf t p = linkOf s p
  counted : ∀ k, outcomeCounter o = some k → t.counters = s.counters.set k (s.counters[k]'k.2 + BitVec.ofNat 32 rs.length)
  uncounted : outcomeCounter o = none → t.counters = s.counters
  unchanged : Unchanged [.spindles, .counters, .links] s t

set_option Elab.async false in
theorem linkOf_setSpindle (n : Fin 6) (c : Context) (p : Port) : linkOf (setSpindle n c s) p = linkOf s p := rfl

/-- One reply (R72, R96, R179). -/
theorem answerQuery_spindles (n : Fin 6) (tag : Tag) (o : DepthOutcome) (c : Nat) (x : Int) (m : Modifiers) (s : State) :
    (answerQuery n tag o c x m s).spindles = s.spindles.set n { s.spindles[n]'n.2 with held := c } := by
  unfold answerQuery
  dsimp only
  rw [(send_unchanged _ _ _).spindles]
  split
  · exact (count_unchanged _ _).spindles
  · rfl

theorem answerQuery_counters (n : Fin 6) (tag : Tag) (o : DepthOutcome) (c : Nat) (x : Int) (m : Modifiers) (s : State) :
    (answerQuery n tag o c x m s).counters = match outcomeCounter o with
      | some k => s.counters.set k (s.counters[k]'k.2 + 1)
      | none => s.counters := by
  unfold answerQuery
  dsimp only
  rw [(send_unchanged _ _ _).counters]
  cases outcomeCounter o <;> rfl

theorem answerQuery_counted {n : Fin 6} {tag : Tag} {k : Fin 28} {c : Nat} {x : Int} {m : Modifiers}
    (h : outcomeCounter o = some k) : (answerQuery n tag o c x m s).counters = s.counters.set k (s.counters[k]'k.2 + 1) := by
  simp only [answerQuery_counters, h]

theorem answerQuery_uncounted {n : Fin 6} {tag : Tag} {c : Nat} {x : Int} {m : Modifiers}
    (h : outcomeCounter o = none) : (answerQuery n tag o c x m s).counters = s.counters := by
  simp only [answerQuery_counters, h]

theorem answerQuery_links (n : Fin 6) (tag : Tag) (o : DepthOutcome) (c : Nat) (x : Int) (m : Modifiers) (s : State) :
    (answerQuery n tag o c x m s).links
      = (send (.s n) (.depthReply tag (s.time.frame.setWidth 16) c x o m) s).links := by
  unfold answerQuery
  dsimp only
  split
  all_goals exact send_links_congr _ _ rfl

theorem linkOf_answerQuery_same (n : Fin 6) (tag : Tag) (o : DepthOutcome) (c : Nat) (x : Int) (m : Modifiers) (s : State) :
    linkOf (answerQuery n tag o c x m s) (.s n) = { linkOf s (.s n) with
      toSend := if portUp s (.s n) then (linkOf s (.s n)).toSend ++ [.depthReply tag (s.time.frame.setWidth 16) c x o m]
        else (linkOf s (.s n)).toSend } :=
  (linkOf_congr _ (answerQuery_links ..)).trans (linkOf_send_same _)

theorem linkOf_answerQuery_other {n : Fin 6} {p : Port} (hp : p ≠ .s n) (tag : Tag) (o : DepthOutcome) (c : Nat) (x : Int)
    (m : Modifiers) (s : State) : linkOf (answerQuery n tag o c x m s) p = linkOf s p :=
  (linkOf_congr _ (answerQuery_links ..)).trans (linkOf_send_other _ hp)

/-- The replies made one after another, each cut from the held depth as it then stands. -/
theorem repliedTo_foldl (hcut : ∀ (s : State) (r : QueryRecord), outcomeCut s r.spindle o r.floor = cut (s.spindles[r.spindle]'r.spindle.2).held r)
    (rs : List QueryRecord) (s : State) :
    RepliedTo cut o rs s (rs.foldl (fun s r =>
      answerQuery r.spindle r.tag o (outcomeCut s r.spindle o r.floor) r.correction noModifiers s) s) := by
  induction rs generalizing s with
  | nil =>
    refine ⟨fun m => rfl, fun m => ?_, fun p _ => rfl, fun k hk => ?_, fun _ => rfl, .refl _ _⟩
    · simp [ofSpindle, repliesBy]
    · simp
  | cons r rs ih =>
    rw [List.foldl_cons, hcut]
    set u := answerQuery r.spindle r.tag o (cut (s.spindles[r.spindle]'r.spindle.2).held r) r.correction noModifiers s with hu
    have one := answerQuery_unchanged r.spindle r.tag o (cut (s.spindles[r.spindle]'r.spindle.2).held r) r.correction noModifiers s
    have rest := ih u
    have here (m : Fin 6) : u.spindles[m]'m.2
        = if r.spindle = m then { s.spindles[m]'m.2 with held := cut (s.spindles[m]'m.2).held r } else s.spindles[m]'m.2 := by
      rw [hu, answerQuery_spindles]
      by_cases e : r.spindle = m
      · subst e
        simp
      · simp [e, Vector.getElem_set_ne, Fin.val_inj]
    have cons (m : Fin 6) : ofSpindle m (r :: rs) = if r.spindle = m then r :: ofSpindle m rs else ofSpindle m rs := by
      by_cases e : r.spindle = m <;> simp [ofSpindle, e]
    refine ⟨fun m => ?_, fun m => ?_, fun p hp => ?_, fun k hk => ?_, fun h => ?_, one.trans rest.unchanged⟩
    · rw [rest.spindles, here, cons]
      split <;> rfl
    · rw [rest.links, one.time, here, cons]
      by_cases e : r.spindle = m
      · subst e
        have link := linkOf_answerQuery_same r.spindle r.tag o (cut (s.spindles[r.spindle]'r.spindle.2).held r) r.correction noModifiers s
        rw [portUp, link, if_pos rfl, if_pos rfl]
        by_cases up : (linkOf s (.s r.spindle)).up = true <;> simp [portUp, up, repliesBy]
      · have link : linkOf u (.s m) = linkOf s (.s m) :=
          linkOf_answerQuery_other (fun h => e (Port.s.inj h).symm) ..
        rw [portUp, link, if_neg e, if_neg e]
        rfl
    · exact (rest.others p hp).trans (linkOf_answerQuery_other (hp _) ..)
    · rw [rest.counted k hk, hu, answerQuery_counted hk]
      simp only [getElem_set_counter, if_true, Vector.set_set, List.length_cons, BitVec.ofNat_add, BitVec.add_assoc]
      rw [BitVec.add_comm (1 : Count32)]
      rfl
    · exact (rest.uncounted h).trans (answerQuery_uncounted h)

end Replies

/-! ### Records answered and removed -/

section AnswerAndRemove

variable {s : State} {o : DepthOutcome} {cut : Nat → QueryRecord → Nat} {p : QueryRecord → Bool}

theorem removeRecords_queries (p : QueryRecord → Bool) (s : State) :
    (removeRecords p s).queries = { s.queries with records := s.queries.records.filter (fun r => !p r) } := by
  unfold removeRecords
  dsimp only
  rw [State.setQueries_queries, (discardInFlight_unchanged _ _).queries]

set_option Elab.async false in
theorem removeRecords_port (p : QueryRecord → Bool) (s : State) :
    (removeRecords p s).port = (discardInFlight (ownedBy (s.queries.records.filter p)) s).port := rfl

/-- Records answered with one outcome, and removed: the replies, then the table without them, the READ in flight of one of
them to be discarded, and the deadline flag judged (R79, R80, R97, R111). -/
structure AnsweredAndRemoved (cut : Nat → QueryRecord → Nat) (o : DepthOutcome) (p : QueryRecord → Bool) (s t : State) :
    Prop where
  spindles : ∀ m : Fin 6, t.spindles[m]'m.2 = { s.spindles[m]'m.2 with
    held := (ofSpindle m (s.queries.records.filter p)).foldl cut (s.spindles[m]'m.2).held }
  links : ∀ m : Fin 6, linkOf t (.s m) = { linkOf s (.s m) with
    toSend := if portUp s (.s m) then (linkOf s (.s m)).toSend
        ++ repliesBy cut o s.time.frame (s.spindles[m]'m.2).held (ofSpindle m (s.queries.records.filter p))
      else (linkOf s (.s m)).toSend }
  others : ∀ p : Port, (∀ m, p ≠ .s m) → linkOf t p = linkOf s p
  queries : t.queries = { s.queries with records := s.queries.records.filter (fun r => !p r) }
  port : t.port = (discardInFlight (ownedBy (s.queries.records.filter p)) s).port
  sched : t.sched = { s.sched with deadline := t.sched.deadline }
  lawful : DeadlineLawful t
  counted : ∀ k j, outcomeCounter o = some k → j ≠ cntDeadline → t.counters[j]'j.2
    = if k = j then s.counters[j]'j.2 + BitVec.ofNat 32 (s.queries.records.filter p).length else s.counters[j]'j.2
  uncounted : outcomeCounter o = none → ∀ j, j ≠ cntDeadline → t.counters[j]'j.2 = s.counters[j]'j.2
  unchanged : Unchanged answerParts s t

theorem answeredAndRemoved
    (hcut : ∀ (s : State) (r : QueryRecord), outcomeCut s r.spindle o r.floor = cut (s.spindles[r.spindle]'r.spindle.2).held r)
    (p : QueryRecord → Bool) (s : State) : AnsweredAndRemoved cut o p s (answerAndRemove p o s) := by
  have replied := repliedTo_foldl hcut (s.queries.records.filter p) s
  unfold answerAndRemove
  dsimp only
  set u := (s.queries.records.filter p).foldl (fun s r =>
    answerQuery r.spindle r.tag o (outcomeCut s r.spindle o r.floor) r.correction noModifiers s) s
  have removed := removeRecords_unchanged p u
  have judged := judgeDeadline_unchanged (removeRecords p u)
  have links : (judgeDeadline (removeRecords p u)).links = u.links := judged.links.trans removed.links
  have counters (j : Fin 28) (hj : j ≠ cntDeadline) : (judgeDeadline (removeRecords p u)).counters[j]'j.2 = u.counters[j]'j.2 := by
    rw [judgeDeadline_counters, removed.counters]
    split
    · rw [getElem_set_counter, if_neg hj.symm]
    · rfl
  refine ⟨fun m => ?_, fun m => ?_, fun q hq => ?_, ?_, ?_, ?_, deadlineLawful_judgeDeadline _, fun k j hk hj => ?_,
    fun h j hj => ?_, ?_⟩
  · rw [judged.spindles, removed.spindles, replied.spindles]
  · rw [linkOf_congr _ links, replied.links]
  · rw [linkOf_congr _ links, replied.others q hq]
  · rw [judged.queries, removeRecords_queries, replied.unchanged.queries]
  · rw [judged.port, removeRecords_port, replied.unchanged.queries]
    unfold discardInFlight
    rw [replied.unchanged.port]
    split
    · split
      · simp [setInFlight, replied.unchanged.port]
      · exact replied.unchanged.port
    · exact replied.unchanged.port
  · rw [judgeDeadline_sched, removed.sched, replied.unchanged.sched]
  · rw [counters j hj, replied.counted k hk, getElem_set_counter]
    split
    · rename_i e
      rw [e]
    · rfl
  · rw [counters j hj, replied.uncounted h]
  · exact ((replied.unchanged.mono (by simp)).andThen removed).andThen judged

/-- RETRACT replies cut to 0 (R97). -/
theorem answeredAndRemoved_retract (p : QueryRecord → Bool) (s : State) :
    AnsweredAndRemoved (fun _ _ => 0) .retract p s (answerAndRemove p .retract s) :=
  answeredAndRemoved (fun _ _ => rfl) p s

/-- The replies of a held outcome take the smaller of the held depth and L (R83). -/
theorem answeredAndRemoved_held (ho : o ≠ .retract) (ho' : o ≠ .outside) (p : QueryRecord → Bool) (s : State) :
    AnsweredAndRemoved (fun h r => min h r.floor) o p s (answerAndRemove p o s) := by
  refine answeredAndRemoved (fun s r => ?_) p s
  cases o with
  | retract => exact absurd rfl ho
  | outside => exact absurd rfl ho'
  | _ => rfl

end AnswerAndRemove

/-! ### SPINDLE_RETRACT and SPINDLE_RESUME -/

section Retract

variable {s : State} {q : Request} {rest : List Request} {bits : BitVec 8}

abbrev retractParts : List Block := [.spindles, .queries, .counters, .links, .port, .sched]

/-- The spindles `ns` have been retracted from `s` to `t` (R73). -/
structure Retracted (ns : List (Fin 6)) (s t : State) : Prop where
  spindles : ∀ m : Fin 6, t.spindles[m]'m.2 = if m ∈ ns then retractContext (s.spindles[m]'m.2) else s.spindles[m]'m.2
  records : t.queries.records = s.queries.records.filter (fun r => r.spindle ∉ ns)
  links : ∀ m : Fin 6, linkOf t (.s m) = if m ∈ ns then { linkOf s (.s m) with
      toSend := if portUp s (.s m) then (linkOf s (.s m)).toSend
          ++ (s.queries.records.filter (fun r => r.spindle == m)).map (fun r =>
              .depthReply r.tag (s.time.frame.setWidth 16) 0 r.correction .retract noModifiers)
        else (linkOf s (.s m)).toSend }
    else linkOf s (.s m)
  others : ∀ p : Port, (∀ m, p ≠ .s m) → linkOf t p = linkOf s p
  counters : ∀ j, j ≠ cntDeadline → t.counters[j]'j.2 = s.counters[j]'j.2
  unchanged : Unchanged retractParts s t

theorem ofSpindle_filter (n m : Fin 6) (rs : List QueryRecord) :
    ofSpindle m (rs.filter (fun r => r.spindle == n)) = if m = n then rs.filter (fun r => r.spindle == n) else [] := by
  unfold ofSpindle
  rw [List.filter_filter]
  split
  · rename_i e
    simp [e]
  · rename_i e
    refine List.filter_eq_nil_iff.mpr fun r _ => ?_
    simp only [Bool.and_eq_true, beq_iff_eq, not_and]
    exact fun h h' => e (h.symm.trans h')

/-- The queries of spindle `n` answered and removed leave those of another as they were. -/
theorem retractSpindle_retracted (n : Fin 6) (s : State) : Retracted [n] s (retractSpindle n s) := by
  have gone := answeredAndRemoved_retract (fun r => r.spindle == n) s
  set u := answerAndRemove (fun r => r.spindle == n) .retract s with hu
  have at' (m : Fin 6) : (retractSpindle n s).spindles[m]'m.2 = if n = m then retractContext (u.spindles[n]'n.2) else u.spindles[m]'m.2 :=
    spindles_setSpindle _
  refine ⟨fun m => ?_, ?_, fun m => ?_, gone.others, gone.uncounted rfl, gone.unchanged.mono (by simp) |>.andThen
    (setSpindle_unchanged _ _ _)⟩
  · rw [at', gone.spindles, gone.spindles]
    by_cases e : m = n
    · subst e
      simp [retractContext]
    · rw [if_neg (Ne.symm e), if_neg (by simpa using e), ofSpindle_filter, if_neg e]
      rfl
  · rw [retractSpindle, (setSpindle_unchanged _ _ _).queries, gone.queries]
    exact List.filter_congr fun r _ => by simp [beq_eq_decide]
  · rw [retractSpindle, linkOf_setSpindle, gone.links, ofSpindle_filter, repliesBy_zero]
    by_cases e : m = n
    · rw [if_pos e, if_pos (show m ∈ [n] from List.mem_singleton.mpr e), e]
    · rw [if_neg e, if_neg (show m ∉ [n] from mt List.mem_singleton.mp e), List.map_nil, List.append_nil, ite_self]

theorem Retracted.cons {n : Fin 6} {ns : List (Fin 6)} {u t : State} (hn : n ∉ ns) (h₁ : Retracted [n] s u)
    (h₂ : Retracted ns u t) : Retracted (n :: ns) s t := by
  refine ⟨fun m => ?_, ?_, fun m => ?_, fun p hp => (h₂.others p hp).trans (h₁.others p hp),
    fun j hj => (h₂.counters j hj).trans (h₁.counters j hj), h₁.unchanged.trans h₂.unchanged⟩
  · rw [h₂.spindles, h₁.spindles]
    by_cases e : m = n
    · subst e
      simp [hn]
    · simp [e]
  · rw [h₂.records, h₁.records, List.filter_filter]
    exact List.filter_congr fun r _ => by simp [not_or, Bool.and_comm]
  · rw [h₂.links]
    by_cases e : m = n
    · subst e
      rw [if_neg hn, h₁.links, if_pos (show m ∈ [m] from List.mem_singleton_self m),
        if_pos (show m ∈ m :: ns from List.mem_cons_self)]
    · have same : linkOf u (.s m) = linkOf s (.s m) := by
        rw [h₁.links, if_neg (show m ∉ [n] from mt List.mem_singleton.mp e)]
      have mine : u.queries.records.filter (fun r => r.spindle == m) = s.queries.records.filter (fun r => r.spindle == m) := by
        rw [h₁.records, List.filter_filter]
        refine List.filter_congr fun r _ => ?_
        by_cases h : r.spindle = m <;> simp [h, e]
      rw [portUp, same, mine, h₁.unchanged.time]
      simp only [List.mem_cons, e, false_or]
      rfl

theorem retracted_foldl {ns : List (Fin 6)} (h : ns.Nodup) (s : State) :
    Retracted ns s (ns.foldl (fun s n => retractSpindle n s) s) := by
  induction ns generalizing s with
  | nil => exact ⟨fun _ => by simp, by simp, fun _ => by simp, fun _ _ => rfl, fun _ _ => rfl, .refl _ _⟩
  | cons n ns ih =>
    obtain ⟨hn, hns⟩ := List.nodup_cons.mp h
    exact (retractSpindle_retracted n s).cons hn (ih hns _)

theorem takeSpindleRetract_outside (h : bits.getLsbD 6 = true ∨ bits.getLsbD 7 = true) (s : State) :
    takeSpindleRetract q bits s = answerRequest q (.refused .badValue) s := by
  simp [takeSpindleRetract, spindlesOf_outside h]

theorem takeSpindleResume_outside (h : bits.getLsbD 6 = true ∨ bits.getLsbD 7 = true) (s : State) :
    takeSpindleResume q bits s = answerRequest q (.refused .badValue) s := by
  simp [takeSpindleResume, spindlesOf_outside h]

end Retract

/-- Settles O29. -/
theorem spindleRetractWithdrawsAndResumeMarks : Obligations.SpindleRetractWithdrawsAndResumeMarks := by
  unfold Obligations.SpindleRetractWithdrawsAndResumeMarks
  refine ⟨fun s tag set rest hq => ⟨_, takeRequest_front hq, fun out => ?_, fun h6 h7 => ?_⟩,
    fun s tag set rest hq => ⟨_, takeRequest_front hq, fun out => ?_, fun h6 h7 => ?_⟩⟩
  · rw [takeSpindleRetract_outside out]
    exact refused_answerRequest _
  · obtain ⟨ns, hns, nodup, mem⟩ := exists_spindlesOf h6 h7
    set u := s.setCellQueue rest with hu
    have gone := retracted_foldl nodup u
    set v := ns.foldl (fun s n => retractSpindle n s) u with hv
    have answered := answerRequest_unchanged ⟨tag, .spindleRetract set⟩ .done v
    rw [show takeSpindleRetract ⟨tag, .spindleRetract set⟩ set u = answerRequest ⟨tag, .spindleRetract set⟩ .done v by
      simp only [takeSpindleRetract, hns, ← hv]]
    have cell : linkOf v .c = linkOf s .c := gone.others .c nofun
    refine ⟨fun n => ?_, ?_, ?_, fun up => ?_, fun n hn up => ?_, ?_, ?_⟩
    · rw [answered.spindles, gone.spindles]
      simp only [mem]
      rfl
    · rw [answered.queries, gone.records]
      exact List.filter_congr fun r _ => by simp [mem]
    · refine repliesCounted_of_same fun k hk => ?_
      rw [answered.counters]
      exact gone.counters k (by rintro rfl; revert hk; decide)
    · rw [toSend_answerRequest _ (by rwa [portUp, cell]), cell]
      rfl
    · rw [show linkOf (answerRequest _ _ v) (.s n) = linkOf v (.s n) from linkOf_send_other _ nofun, gone.links,
        if_pos ((mem n).mpr hn), show portUp u (.s n) = true from up, if_pos rfl]
      rfl
    · rw [answered.cellQueue, gone.unchanged.cellQueue]
      rfl
    · exact (((setCellQueue_unchanged rest s).mono (by simp)).andThen gone.unchanged).andThen answered
  · rw [takeSpindleResume_outside out]
    exact refused_answerRequest _
  · obtain ⟨ns, hns, nodup, mem⟩ := exists_spindlesOf h6 h7
    rw [show takeSpindleResume ⟨tag, .spindleResume set⟩ set (s.setCellQueue rest)
        = answerRequest ⟨tag, .spindleResume set⟩ .done (mapSpindles resumeContext ns (s.setCellQueue rest)) by
      simp only [takeSpindleResume, hns]]
    have resumed := mapSpindles_unchanged resumeContext ns (s.setCellQueue rest)
    refine ⟨fun n => ?_, answered_answerRequest _ resumed (resumed.links.trans rfl) (resumed.cellQueue.trans rfl)⟩
    rw [(answerRequest_unchanged _ _ _).spindles, spindles_mapSpindles _ nodup]
    simp only [mem, resumeContext]
    by_cases named : set.getLsbD n = true
    · simp only [named, if_true, true_and]
      rfl
    · rw [if_neg named, if_neg (fun h => named h.1)]
      rfl

/-! ### TOUCH_OFF -/

/-- Settles O30. -/
theorem touchOffIsAcceptedWithinItsLimit : Obligations.TouchOffIsAcceptedWithinItsLimit := by
  unfold Obligations.TouchOffIsAcceptedWithinItsLimit
  intro s n tag length hl new
  set u := afterGoodRecord (.s n) s with hu
  have good := afterGoodRecord_unchanged (.s n) s
  have up : portUp u (.s n) = true := portUp_afterGoodRecord hl.2
  have link : (linkOf u (.s n)).toSend = (linkOf s (.s n)).toSend := by rw [hu, linkOf_afterGoodRecord]
  refine ⟨takeTouchOff n tag length u, takeRecord_listening hl, fun within => ?_, fun beyond => ?_⟩
  · have taken : takeTouchOff n tag length u = send (.s n) (.touchResult tag true new)
        (setSpindle n { s.spindles[n]'n.2 with pendingCorrection := some new } u) := if_pos within
    rw [taken]
    have sent := send_unchanged (.s n) (.touchResult tag true new)
      (setSpindle n { s.spindles[n]'n.2 with pendingCorrection := some new } u)
    refine ⟨sent.spindles, ?_, ?_⟩
    · rw [toSend_send _ (show portUp (setSpindle n _ u) (.s n) = true from up), linkOf_setSpindle, link]
    · exact ((good.mono (by simp)).andThen (setSpindle_unchanged _ _ _)).andThen sent
  · have taken : takeTouchOff n tag length u = raise srcToolRange (send (.s n) (.touchResult tag false new) u) :=
      if_neg (Nat.not_le.2 beyond)
    rw [taken]
    have sent := send_unchanged (.s n) (.touchResult tag false new) u
    set v := send (.s n) (.touchResult tag false new) u with hv
    have other : linkOf v .c = linkOf s .c := (linkOf_send_other _ (by simp)).trans (linkOf_setLink_other _ (by simp))
    refine ⟨?_, ?_, ?_, ((good.mono (by simp)).andThen sent).andThen (raise_unchanged _ _)⟩
    · rw [raise_notices, sent.notices, good.notices]
    · rw [raise_linkOf_other (p := .s n) _ _ (by simp), hv, toSend_send _ up, link]
    · have mode : modeOf v = modeOf s := by rw [modeOf, sent.sched, good.sched, modeOf]
      rw [raise_toSend, portUp, other, mode, sent.notices, good.notices, sent.settings, good.settings, sent.time, good.time]
      have urgent : (urgentSources &&& srcToolRange ≠ 0) = True := eq_true (by decide)
      simp only [BitVec.and_comm srcToolRange, urgent, true_and]
      rfl

/-! ### Queries answered at arrival -/

section Arrival

variable {s : State} {n : Fin 6} {tag : Tag} {due16 : BitVec 16} {u v : Int} {o : DepthOutcome}

/-- The query has been answered at arrival with an outcome (R82, R83, R96). -/
def AnsweredAtArrival (n : Fin 6) (tag : Tag) (due16 : BitVec 16) (u v : Int) (floor : Nat) (s : State) (o : DepthOutcome) :
    Prop :=
  ∃ (t : State) (cut : Nat), exec (.depthQuery n tag due16 u v) s = .next t
      ∧ cut = (if o = .retract then 0 else min (s.spindles[n]'n.2).held floor)
      ∧ (linkOf t (.s n)).toSend = (linkOf s (.s n)).toSend
          ++ [.depthReply tag (s.time.frame.setWidth 16) cut (s.spindles[n]'n.2).correction o noModifiers]
      ∧ t.spindles = s.spindles.set n { s.spindles[n]'n.2 with held := cut }
      ∧ t.counters = (if o = .retract then s.counters
          else if o = .heldLate then s.counters.set cntHeldLate (s.counters[cntHeldLate]'cntHeldLate.2 + 1)
          else s.counters.set cntOtherHeld (s.counters[cntOtherHeld]'cntOtherHeld.2 + 1))
      ∧ Unchanged [.spindles, .counters, .links] s t

theorem answeredAtArrival (hl : Listening (.s n) s) (h : arrivalOutcome s n tag due16 = some o)
    (ho : o ∈ [.retract, .heldUnbound, .heldBusy, .heldDuplicate, .heldLate, .heldNoSheet, .heldNotReady]) :
    AnsweredAtArrival n tag due16 u v (immediateFloor s (s.spindles[n]'n.2).active) s o := by
  set w := afterGoodRecord (.s n) s with hw
  have good := afterGoodRecord_unchanged (.s n) s
  have up : portUp w (.s n) = true := portUp_afterGoodRecord hl.2
  have link : linkOf w (.s n) = { linkOf s (.s n) with bad := 0 } := linkOf_afterGoodRecord _ _
  have taken : takeQuery n tag due16 u v w = answerQuery n tag o
      (outcomeCut w n o (immediateFloor w (s.spindles[n]'n.2).active)) (s.spindles[n]'n.2).correction noModifiers w := by
    have h' : arrivalOutcome w n tag due16 = some o := h
    simp only [takeQuery, h']
    rfl
  have cut : outcomeCut w n o (immediateFloor w (s.spindles[n]'n.2).active)
      = if o = .retract then 0 else min (s.spindles[n]'n.2).held (immediateFloor s (s.spindles[n]'n.2).active) := by
    cases o with
    | outside => simp at ho
    | _ => rfl
  rw [cut] at taken
  set held := if o = .retract then 0 else min (s.spindles[n]'n.2).held (immediateFloor s (s.spindles[n]'n.2).active) with hcut
  have answered := answerQuery_unchanged n tag o held (s.spindles[n]'n.2).correction noModifiers w
  refine ⟨_, held, (takeRecord_listening hl).trans (congrArg Host.Outcome.next taken), rfl, ?_, ?_, ?_,
    (good.mono (by simp)).andThen answered⟩
  · rw [linkOf_answerQuery_same, if_pos up, link]
    rfl
  · exact answerQuery_spindles ..
  · simp only [List.mem_cons, List.not_mem_nil, or_false] at ho
    obtain rfl | rfl | rfl | rfl | rfl | rfl | rfl := ho
    · exact answerQuery_uncounted rfl
    all_goals exact answerQuery_counted rfl

set_option Elab.async false in
theorem arrivalOutcome_retracted (hs : (s.spindles[n]'n.2).state = .retracted) :
    arrivalOutcome s n tag due16 = some .retract := if_pos hs

theorem arrivalOutcome_unbound (hs : (s.spindles[n]'n.2).state = .unbound) :
    arrivalOutcome s n tag due16 = some .heldUnbound := by
  have not_retracted : (s.spindles[n]'n.2).state ≠ .retracted := fun e => nomatch hs.symm.trans e
  exact (if_neg not_retracted).trans (if_pos hs)

theorem arrivalOutcome_busy (hs : (s.spindles[n]'n.2).state = .bound)
    (full : 4 ≤ (s.queries.records.filter (fun r => r.spindle == n)).length) :
    arrivalOutcome s n tag due16 = some .heldBusy := by
  have not_retracted : (s.spindles[n]'n.2).state ≠ .retracted := fun e => nomatch hs.symm.trans e
  have not_unbound : (s.spindles[n]'n.2).state ≠ .unbound := fun e => nomatch hs.symm.trans e
  exact (if_neg not_retracted).trans ((if_neg not_unbound).trans (if_pos full))

/-- The outcome by the state of the sheet, the last check of R82. -/
def outcomeOfSheet : Option Sheet → Option DepthOutcome
  | none => some .heldNoSheet
  | some x =>
    match x.state with
    | .retiring => some .heldNoSheet
    | .filling => some .heldNotReady
    | .loading => some .heldNotReady
    | .scanning => none
    | .ready => none

/-- A BOUND spindle with room for a query: its tag, then its due frame, then its sheet are judged. -/
theorem arrivalOutcome_bound (hs : (s.spindles[n]'n.2).state = .bound)
    (room : (s.queries.records.filter (fun r => r.spindle == n)).length < 4) :
    arrivalOutcome s n tag due16
      = if (s.queries.records.filter (fun r => r.spindle == n)).any (fun r => r.tag == tag) then some .heldDuplicate
        else if dueOffset due16 s.time.frame ≤ 0 then some .heldLate
        else outcomeOfSheet ((s.spindles[n]'n.2).active.sheet.bind (sheetAt s)) := by
  have not_retracted : (s.spindles[n]'n.2).state ≠ .retracted := fun e => nomatch hs.symm.trans e
  have not_unbound : (s.spindles[n]'n.2).state ≠ .unbound := fun e => nomatch hs.symm.trans e
  unfold arrivalOutcome
  dsimp only
  rw [if_neg not_retracted, if_neg not_unbound, if_neg (Nat.not_le.2 room)]
  cases (s.spindles[n]'n.2).active.sheet.bind (sheetAt s) with
  | none => rfl
  | some x => cases h : x.state <;> simp only [outcomeOfSheet, h]

end Arrival

/-- Settles O31. -/
theorem queryIsAnsweredAtArrivalByTheFirstCheck : Obligations.QueryIsAnsweredAtArrivalByTheFirstCheck := by
  unfold Obligations.QueryIsAnsweredAtArrivalByTheFirstCheck
  intro s n tag due16 u v hl c mine late floor answered
  have floor_eq : immediateFloor s c.active = floor := by
    show immediateFloor s c.active = _
    unfold immediateFloor
    simp only [floor]
    cases c.active.sheet.bind (sheetAt s) with
    | none => rfl
    | some x =>
      dsimp only
      unfold floorLimit
      cases x.kind with
      | relief r => exact ite_self _
      | letter f => rfl
  have answer {o : DepthOutcome} (h : arrivalOutcome s n tag due16 = some o)
      (ho : o ∈ [.retract, .heldUnbound, .heldBusy, .heldDuplicate, .heldLate, .heldNoSheet, .heldNotReady]) : answered o := by
    have := answeredAtArrival (u := u) (v := v) hl h ho
    rw [floor_eq] at this
    exact this
  refine ⟨fun hs => answer ?_ (by decide), fun hs => answer ?_ (by decide), fun hs full => answer ?_ (by decide),
    fun hs room seen => answer ?_ (by decide), fun hs room new hlate => answer ?_ (by decide), fun hs room new ahead =>
      ⟨fun no_sheet => answer ?_ (by decide), fun x hx => ⟨fun retiring => answer ?_ (by decide), fun loading =>
        answer ?_ (by decide)⟩⟩⟩
  · exact arrivalOutcome_retracted hs
  · exact arrivalOutcome_unbound hs
  · exact arrivalOutcome_busy hs full
  · have dup : mine.any (fun r => r.tag == tag) = true := by simpa using seen
    exact (arrivalOutcome_bound hs room).trans (if_pos dup)
  all_goals
    have unseen : ¬ mine.any (fun r => r.tag == tag) = true := by simpa using new
    refine (arrivalOutcome_bound hs room).trans ((if_neg unseen).trans ?_)
  · exact if_pos hlate
  all_goals refine (if_neg ahead).trans ?_
  · exact congrArg outcomeOfSheet no_sheet
  · exact (congrArg outcomeOfSheet hx).trans (by simp only [outcomeOfSheet, retiring])
  · refine (congrArg outcomeOfSheet hx).trans ?_
    obtain h | h := loading <;> simp only [outcomeOfSheet, h]

/-! ### The urgency point and the alarm firings -/

theorem markUrgent_queries (s : State) : (markUrgent s).queries = { s.queries with
    records := s.queries.records.map (fun r => { r with urgent := r.urgent || r.due == s.time.frame + 1 }) } := by
  unfold markUrgent
  rw [State.setQueries_queries]
  refine congrArg (fun rs => { s.queries with records := rs }) (List.map_congr_left fun r _ => ?_)
  by_cases h : r.due = s.time.frame + 1
  · exact (if_pos h).trans (by simp [h])
  · exact (if_neg h).trans (by rw [beq_eq_false_iff_ne.mpr h, Bool.or_false])

/-- Settles O39. -/
theorem urgencyPointMakesTheNextFramesQueriesUrgent : Obligations.UrgencyPointMakesTheNextFramesQueriesUrgent := by
  unfold Obligations.UrgencyPointMakesTheNextFramesQueriesUrgent
  refine fun s hr => ⟨fun due => ⟨takeUrgency s, takeEvent_due hr due, takeUrgency_time s, ?_, ?_, ?_, takeUrgency_unchanged s⟩,
    fun quiet => takeEvent_not_due hr quiet⟩
  · rw [takeUrgency, (judgeDeadline_unchanged _).queries, markUrgent_queries]
    rfl
  · exact deadlineLawful_judgeDeadline _
  · rw [takeUrgency, judgeDeadline_counters, judgeDeadline_sched, (markUrgent_unchanged _).counters, (markUrgent_unchanged _).sched]
    simp only [and_comm]
    rfl

section Firing

variable {s : State} {a : Fin 2}

theorem afterAlarm_eq (a : Fin 2) : afterAlarm a = if a = 0 then .afterAlarm0 else .afterAlarm1 := rfl

theorem srcAlarm_eq (a : Fin 2) : srcAlarm a = if a = 0 then 32 else 64 := by
  fin_cases a <;> rfl

theorem raise_alarm (a : Fin 2) (s : State) :
    raise (srcAlarm a) s = s.setNotices { s.notices with pending := s.notices.pending ||| srcAlarm a } :=
  raise_of_not_urgent (by fin_cases a <;> decide)

/-- An alarm firing makes no record: it sets its source and the flag of each spindle that waits on it (R57, R67). -/
theorem fireAlarm_quiet (a : Fin 2) (s : State) : Unchanged [.spindles, .notices] s (fireAlarm a s) := by
  rw [fireAlarm, raise_alarm]
  exact ((setNotices_unchanged _ s).mono (by simp)).andThen (mapSpindles_unchanged _ _ _)

theorem fireAlarm_notices (a : Fin 2) (s : State) :
    (fireAlarm a s).notices = { s.notices with pending := s.notices.pending ||| srcAlarm a } := by
  rw [fireAlarm, (mapSpindles_unchanged _ _ _).notices, raise_notices]

set_option Elab.async false in
theorem nodup_allSpindles : allSpindles.Nodup := by decide

theorem fireAlarm_spindles (a : Fin 2) (s : State) (n : Fin 6) :
    (fireAlarm a s).spindles[n]'n.2 = noteFiring a (s.spindles[n]'n.2) := by
  rw [fireAlarm, spindles_mapSpindles _ nodup_allSpindles, if_pos (mem_allSpindles n), raise_alarm]
  rfl

end Firing

/-- Settles O40. -/
theorem alarmFiringReachesTheSpindlesThatWait : Obligations.AlarmFiringReachesTheSpindlesThatWait := by
  unfold Obligations.AlarmFiringReachesTheSpindlesThatWait
  refine fun s a hr => ⟨fun due => ⟨takeAlarm a s, takeEvent_due hr due, takeAlarm_time s a, ?_, fun n => ?_, ?_⟩,
    fun quiet => takeEvent_not_due hr quiet⟩
  · rw [takeAlarm, fireAlarm_notices, srcAlarm_eq]
    rfl
  · rw [takeAlarm, fireAlarm_spindles]
    rfl
  · exact ((setTime_unchanged _ s).mono (by simp)).andThen (fireAlarm_quiet a _)

end Sys2Proof.Machine
end

section
/-! SUPPORT. Depth queries: the mapping and the interpolation cell, the cut and its modifiers, and the acceptance of a
query. -/

namespace Sys2Proof.Machine

/- A proof is elaborated in a task of its own. `set_option Elab.async false in` before a theorem makes the compile wait there
for the proofs before it, so that only a few are under way at a time; the linters, which would keep every proof's syntax
tree, are off, so that the compile of the whole text stays within its memory. -/
set_option linter.all false

open Sys2Proof

/-! ### The mapping -/

/-- The floor of a grid position, by its two bounds (R85). -/
theorem gridPosition_bounds (origin u : Int) (mirror : Bool) (m : Nat) {p : Nat} (hp : 0 < p) :
    (16 * p : Int) * gridPosition origin mirror m p u
        ≤ 4096 * origin + (if mirror = true then -(m * u) else m * u)
      ∧ 4096 * origin + (if mirror = true then -(m * u) else m * u)
        < (16 * p : Int) * (gridPosition origin mirror m p u + 1) := by
  have pos : (0 : Int) < 16 * p := by omega
  have signed : (if mirror = true then -(m * u) else (m * u : Int)) = (if mirror then -1 else 1) * m * u := by
    cases mirror <;> simp
  rw [signed]
  refine ⟨Int.mul_ediv_self_le pos.ne', ?_⟩
  rw [Int.mul_comm (16 * p : Int)]
  exact Int.lt_ediv_add_one_mul_self _ pos

theorem outsideGrid_iff (g : Int) (n : Nat) : outsideGrid g n = true ↔ g < 0 ∨ 256 * ((n : Int) - 1) < g := by
  simp [outsideGrid]

theorem outsideGrid_false {g : Int} {n : Nat} : outsideGrid g n = false ↔ 0 ≤ g ∧ g ≤ 256 * ((n : Int) - 1) := by
  rw [← Bool.not_eq_true, outsideGrid_iff]
  omega

/-- A grid position on the sheet is its cell's index and fraction (R85). -/
theorem cell_of_inside {g : Int} {n : Nat} (hn : 2 ≤ n) (hg : outsideGrid g n = false) :
    cellIndex g n + 1 < n ∧ cellFraction g n ≤ 256 ∧ g = 256 * (cellIndex g n : Int) + (cellFraction g n : Int)
      ∧ (cellFraction g n = 256 → g = 256 * ((n : Int) - 1)) := by
  obtain ⟨low, high⟩ := outsideGrid_false.mp hg
  simp only [cellFraction, cellIndex]
  omega

theorem neededOf_length (i f : Nat) : 1 ≤ (neededOf i f).length ∧ (neededOf i f).length ≤ 2 := by
  unfold neededOf
  split <;> split <;> simp
  omega

theorem neededOf_pairwise (i f : Nat) : (neededOf i f).Pairwise (· < ·) := by
  unfold neededOf
  split <;> split <;> simp

/-! ### The interpolation -/

section Interpolation

variable {lo hi a b f q : Nat}

/-- A weighted mean lies above the smaller of its two values. -/
theorem le_weighted (hf : f ≤ 256) (ha : lo ≤ a) (hb : lo ≤ b) : 256 * lo ≤ a * (256 - f) + b * f :=
  calc 256 * lo = lo * (256 - f) + lo * f := by rw [← Nat.mul_add, Nat.sub_add_cancel hf, Nat.mul_comm]
    _ ≤ _ := Nat.add_le_add (Nat.mul_le_mul_right _ ha) (Nat.mul_le_mul_right _ hb)

/-- A weighted mean lies below the larger of its two values. -/
theorem weighted_le (hf : f ≤ 256) (ha : a ≤ hi) (hb : b ≤ hi) : a * (256 - f) + b * f ≤ 256 * hi :=
  calc a * (256 - f) + b * f ≤ hi * (256 - f) + hi * f :=
        Nat.add_le_add (Nat.mul_le_mul_right _ ha) (Nat.mul_le_mul_right _ hb)
    _ = 256 * hi := by rw [← Nat.mul_add, Nat.sub_add_cancel hf, Nat.mul_comm]

theorem roundHeight_bounds (s q : Nat) :
    65536 * roundHeight s q ≤ s * q + 32768 ∧ s * q < 65536 * roundHeight s q + 32768 := by
  unfold roundHeight
  omega

theorem le_roundHeight {s : Nat} (h : 65536 * lo ≤ s) : lo * q ≤ roundHeight s q := by
  have scaled : 65536 * (lo * q) ≤ s * q := by
    rw [← Nat.mul_assoc]
    exact Nat.mul_le_mul_right q h
  unfold roundHeight
  omega

theorem roundHeight_le {s : Nat} (h : s ≤ 65536 * hi) : roundHeight s q ≤ hi * q := by
  have scaled : s * q ≤ 65536 * (hi * q) := by
    rw [← Nat.mul_assoc]
    exact Nat.mul_le_mul_right q h
  unfold roundHeight
  omega

end Interpolation

/-- Settles O34. -/
theorem mappingFindsACellAndInterpolatesWithinIt : Obligations.MappingFindsACellAndInterpolatesWithinIt := by
  unfold Obligations.MappingFindsACellAndInterpolatesWithinIt
  refine ⟨fun origin u mirror m p hp => gridPosition_bounds origin u mirror m hp, outsideGrid_iff, fun g n hn hg => ?_,
    fun h00 h10 h01 h11 fx fy q lo hi hx hy => ⟨rfl, (roundHeight_bounds _ _).1, (roundHeight_bounds _ _).2, ?_, ?_⟩⟩
  · obtain ⟨on_sheet, le, sum, last⟩ := cell_of_inside hn hg
    refine ⟨on_sheet, le, sum, last, fun i => ?_, (neededOf_length _ _).1, (neededOf_length _ _).2, neededOf_pairwise _ _⟩
    rw [mem_neededOf]
    omega
  · intro h₁ h₂ h₃ h₄
    refine le_roundHeight ?_
    have := le_weighted (f := fy) hy (le_weighted hx h₁ h₂) (le_weighted hx h₃ h₄)
    omega
  · intro h₁ h₂ h₃ h₄
    refine roundHeight_le ?_
    have := weighted_le (f := fy) hy (weighted_le hx h₁ h₂) (weighted_le hx h₃ h₄)
    omega

/-! ### The cut -/

/-- The depth less the allowance, within 0 and L (R94, R95). -/
theorem boundCut_clamped (d allowance floor : Nat) :
    (if (d : Int) - allowance < 0 then 0
      else if (floor : Int) < (d : Int) - allowance then floor else ((d : Int) - allowance).toNat)
      = min (d - allowance) floor := by
  split <;> [skip; split] <;> omega

/-- The cut is the clamped depth within the plunge bound, and its modifiers say which bounds it met (R94, R95, R98). -/
theorem boundCut_eq (d allowance floor held plunge : Nat) (above : Bool) :
    boundCut d allowance floor held plunge above = (min (min (d - allowance) floor) (held + plunge),
      { clampedLow := decide (d < allowance), clampedFloor := decide (floor + allowance < d),
        limited := decide (held + plunge < min (d - allowance) floor), aboveRef := above, memory := false }) := by
  simp only [boundCut, boundCut_clamped, Prod.mk.injEq, Modifiers.mk.injEq, decide_eq_decide, and_true]
  refine ⟨?_, by omega, by omega⟩
  split <;> omega

section Answer

variable {x : Sheet} {r : QueryRecord} {held : Nat}

theorem badWord_iff : badWord r = true ↔ ∃ f ∈ r.fetches, ∃ w, f.state = .done w true := by
  unfold badWord
  rw [List.any_eq_true]
  refine exists_congr fun f => and_congr_right fun _ => ?_
  cases h : f.state <;> simp

set_option Elab.async false in
theorem computeAnswer_bad (h : badWord r = true) :
    computeAnswer x r held = (.heldVoid, min held r.floor, { noModifiers with memory := true }) := if_pos h

theorem computeAnswer_void (h : badWord r = false) (hv : voidNeeded x.geom r = true) :
    computeAnswer x r held = (.heldVoid, min held r.floor, noModifiers) := by
  simp [computeAnswer, h, hv]

theorem computeAnswer_cut (h : badWord r = false) (hv : voidNeeded x.geom r = false) :
    computeAnswer x r held = (.cut, boundCut (blankDepth x r.params (interpolate x.geom r)).1 r.params.allowance r.floor
      held r.params.plungeLimit (blankDepth x r.params (interpolate x.geom r)).2) := by
  simp [computeAnswer, h, hv]

theorem blankDepth_relief {rel : Relief} (h : x.kind = .relief rel) (p : Params) (height : Nat) :
    blankDepth x p height = ((rel.href - height) * 4096 / p.ratio, decide (rel.href < height)) := by
  simp only [blankDepth, h]

theorem blankDepth_letter {f : Nat} (h : x.kind = .letter f) (p : Params) (height : Nat) :
    blankDepth x p height = (height * p.vFactor / p.ratio, false) := by
  simp only [blankDepth, h]

/-- A needed sample reads VOID where the fetches hold every needed sample (R91). -/
theorem voidNeeded_iff {g : Geometry}
    (all : ∀ x ∈ neededOf r.i r.fx, ∀ y ∈ neededOf r.j r.fy, ∃ c, FetchedSample g r x y c) :
    voidNeeded g r = true ↔ ∃ x ∈ neededOf r.i r.fx, ∃ y ∈ neededOf r.j r.fy, FetchedSample g r x y 65535 := by
  simp only [voidNeeded, List.any_eq_true, beq_iff_eq]
  constructor
  · rintro ⟨y, hy, x, hx, h⟩
    obtain ⟨c, hc⟩ := all x hx y hy
    have void : c = 65535 := (sampleAt_of_fetchedSample hc).symm.trans h
    exact ⟨x, hx, y, hy, void ▸ hc⟩
  · rintro ⟨x, hx, y, hy, h⟩
    exact ⟨y, hy, x, hx, sampleAt_of_fetchedSample h⟩

/-- A needed sample counts with its code, and one that is not needed for nothing (R92). -/
theorem sampleOrZero_eq {g : Geometry} {x y : Nat} (h : x ∈ neededOf r.i r.fx → y ∈ neededOf r.j r.fy → FetchedSample g r x y c)
    (wx wy : Nat) (hx : x ∉ neededOf r.i r.fx → wx = 0) (hy : y ∉ neededOf r.j r.fy → wy = 0) :
    sampleOrZero g r x y * wx * wy = c.toNat * wx * wy := by
  by_cases nx : x ∈ neededOf r.i r.fx
  · by_cases ny : y ∈ neededOf r.j r.fy
    · rw [sampleOrZero, if_pos (by simp [nx, ny]), sampleAt_of_fetchedSample (h nx ny)]
    · simp [hy ny]
  · simp [hx nx]

end Answer

/-- The interpolation sum, each sample with its two weights (R92). -/
theorem interpolationSum_eq (h00 h10 h01 h11 fx fy : Nat) :
    interpolationSum h00 h10 h01 h11 fx fy = h00 * (256 - fx) * (256 - fy) + h10 * fx * (256 - fy)
      + (h01 * (256 - fx) * fy + h11 * fx * fy) := by
  rw [interpolationSum, Nat.add_mul, Nat.add_mul]

/-- Settles O35. -/
theorem cutFollowsFromTheWordsAndItsBounds : Obligations.CutFollowsFromTheWordsAndItsBounds := by
  unfold Obligations.CutFollowsFromTheWordsAndItsBounds
  refine ⟨fun d allowance floor held plunge above => ?_, fun x r held => ⟨computeAnswer_bad, computeAnswer_void,
    fun good full => ?_⟩, fun r => badWord_iff, fun g r hfx hfy all => ⟨voidNeeded_iff all, ?_⟩⟩
  · simp only [boundCut_eq, decide_eq_true_eq, true_and]
    omega
  · simp only [computeAnswer_cut good full, boundCut_eq, decide_eq_true_eq]
    refine ⟨trivial, trivial, fun rel hr => ?_, fun f hf => ?_⟩
    · simp [blankDepth_relief hr]
    · simp [blankDepth_letter hf]
  · intro h00 h10 h01 h11 s00 s10 s01 s11
    have weights (i f : Nat) : (i ∉ neededOf i f → 256 - f = 0) ∧ (i + 1 ∉ neededOf i f → f = 0) := by
      constructor <;> rw [mem_neededOf] <;> intro h <;> omega
    have low {i f : Nat} (h : i ∈ neededOf i f) : f < 256 := by
      rw [mem_neededOf] at h
      omega
    have high {i f : Nat} (h : i + 1 ∈ neededOf i f) : 0 < f := by
      rw [mem_neededOf] at h
      omega
    unfold interpolate
    rw [interpolationSum_eq, interpolationSum_eq,
      sampleOrZero_eq (c := h00) (fun hx hy => s00 (low hx) (low hy)) _ _ (weights _ _).1 (weights _ _).1,
      sampleOrZero_eq (c := h10) (fun hx hy => s10 (high hx) (low hy)) _ _ (weights _ _).2 (weights _ _).1,
      sampleOrZero_eq (c := h01) (fun hx hy => s01 (low hx) (high hy)) _ _ (weights _ _).1 (weights _ _).2,
      sampleOrZero_eq (c := h11) (fun hx hy => s11 (high hx) (high hy)) _ _ (weights _ _).2 (weights _ _).2]

end Sys2Proof.Machine
end

section
/-! SUPPORT. The choice (R105 to R122): what each issue does, which issue a choice makes, and the candidates that it
chooses from. -/

namespace Sys2Proof.Machine

/- A proof is elaborated in a task of its own. `set_option Elab.async false in` before a theorem makes the compile wait there
for the proofs before it, so that only a few are under way at a time; the linters, which would keep every proof's syntax
tree, are off, so that the compile of the whole text stays within its memory. -/
set_option linter.all false

open Sys2Proof

/-! ### The effects of an issue (R106, R107) -/

/-- The access that an operation makes counts as a row hit (R107). -/
def AccessHits (s : State) (o : InFlight) : Prop :=
  ∃ tile, ((∃ word owner, o.op = .read tile word owner) ∨ ∃ word codes, o.op = .write tile word codes)
    ∧ (s.port.banks[bankOf tile]'(bankOf tile).2).accessed = true

/-- What the issue of an operation does, up to the counters of preemptions and of forced refreshes and to the refresh in
progress, which its place in the choice order decides. -/
structure Issued (s t : State) (o : InFlight) : Prop where
  inFlight : t.port.inFlight = some o
  discard : o.discard = false
  afterReset : o.afterReset = false
  issuedFor : IssuedFor s o
  touches : IssueTouches s t o
  hits : (AccessHits s o → t.counters[cntRowHits]'cntRowHits.2 = s.counters[cntRowHits]'cntRowHits.2 + 1)
    ∧ (¬ AccessHits s o → t.counters[cntRowHits]'cntRowHits.2 = s.counters[cntRowHits]'cntRowHits.2)
  opens : ((∃ b row, o.op = .openRow b row) → t.counters[cntOpens]'cntOpens.2 = s.counters[cntOpens]'cntOpens.2 + 1)
    ∧ ((∀ b row, o.op ≠ .openRow b row) → t.counters[cntOpens]'cntOpens.2 = s.counters[cntOpens]'cntOpens.2)
  merges : ((∃ tile word, o.op = .read tile word .merge) → t.counters[cntMergeReads]'cntMergeReads.2 = s.counters[cntMergeReads]'cntMergeReads.2 + 1)
    ∧ ((∀ tile word, o.op ≠ .read tile word .merge) → t.counters[cntMergeReads]'cntMergeReads.2 = s.counters[cntMergeReads]'cntMergeReads.2)
  others : ∀ k, k ∉ [cntRowHits, cntOpens, cntMergeReads, cntDeadline] → t.counters[k]'k.2 = s.counters[k]'k.2
  movesFetch : IssueMovesFetch s t o
  movesWindow : IssueMovesWindow s t o
  portState : t.port.state = s.port.state
  owed : t.port.owed = s.port.owed
  refreshLeft : t.port.refreshLeft = s.port.refreshLeft
  baseMode : t.sched.baseMode = s.sched.baseMode
  unchanged : Unchanged issueParts s t

section Access

variable {s t : State} {o : InFlight}

/-- A bank as an access to it leaves it (R132). -/
def accessedBank (k : Bank) : Bank := { k with timer := none, closeWanted := false, accessed := true }

/-- The port with an access in flight. -/
def portAccessing (s : State) (o : InFlight) (b : Fin 8) : MemoryPort :=
  { s.port with inFlight := some o, banks := s.port.banks.set b (accessedBank (s.port.banks[b]'b.2)) }

/-- The access to a bank, its operation in flight: what fetch READs, merge READs, WRITEs and window READs share. -/
def issueAccess (o : InFlight) (tile : Nat) (s : State) : State := accessBank (bankOf tile) (setInFlight (some o) s)

variable {tile : Nat}

theorem issueAccess_port (o : InFlight) (tile : Nat) (s : State) :
    (issueAccess o tile s).port = portAccessing s o (bankOf tile) := by
  unfold issueAccess accessBank
  dsimp only
  split <;> rfl

theorem issueAccess_counters (o : InFlight) (tile : Nat) (s : State) : (issueAccess o tile s).counters
    = if (s.port.banks[bankOf tile]'(bankOf tile).2).accessed then s.counters.set cntRowHits (s.counters[cntRowHits]'cntRowHits.2 + 1)
      else s.counters := by
  unfold issueAccess accessBank
  dsimp only
  by_cases h : (s.port.banks[bankOf tile]'(bankOf tile).2).accessed = true
  · have h' : ((setInFlight (some o) s).port.banks[bankOf tile]'(bankOf tile).2).accessed = true := h
    rw [if_pos h', if_pos h]
    rfl
  · have h' : ¬ ((setInFlight (some o) s).port.banks[bankOf tile]'(bankOf tile).2).accessed = true := h
    rw [if_neg h', if_neg h]
    rfl

theorem issueAccess_unchanged (o : InFlight) (tile : Nat) (s : State) :
    Unchanged [.port, .counters] s (issueAccess o tile s) :=
  ((setInFlight_unchanged _ s).mono (by decide)).andThen (accessBank_unchanged _ _)

/-- The tile of an access. -/
def IsAccess (op : MemoryOp) (tile : Nat) : Prop :=
  (∃ word owner, op = .read tile word owner) ∨ ∃ word codes, op = .write tile word codes

theorem IsAccess.unique {op : MemoryOp} {a b : Nat} (ha : IsAccess op a) (hb : IsAccess op b) : a = b := by
  obtain ⟨_, _, rfl⟩ | ⟨_, _, rfl⟩ := ha <;> obtain ⟨_, _, e⟩ | ⟨_, _, e⟩ := hb <;> cases e <;> rfl

theorem IsAccess.not_open {op : MemoryOp} (h : IsAccess op tile) (b : Fin 8) (row : Nat) : op ≠ .openRow b row := by
  obtain ⟨_, _, rfl⟩ | ⟨_, _, rfl⟩ := h <;> nofun

theorem IsAccess.not_close {op : MemoryOp} (h : IsAccess op tile) (b : Fin 8) : op ≠ .closeRow b := by
  obtain ⟨_, _, rfl⟩ | ⟨_, _, rfl⟩ := h <;> nofun

theorem IsAccess.not_refresh {op : MemoryOp} (h : IsAccess op tile) : op ≠ .refresh := by
  obtain ⟨_, _, rfl⟩ | ⟨_, _, rfl⟩ := h <;> nofun

theorem accessHits_iff (h : IsAccess o.op tile) : AccessHits s o ↔ (s.port.banks[bankOf tile]'(bankOf tile).2).accessed = true :=
  ⟨fun ⟨_, h', hit⟩ => IsAccess.unique h' h ▸ hit, fun hit => ⟨tile, h, hit⟩⟩

/-- An access touches its bank and no other. -/
theorem issueTouches_access (h : IsAccess o.op tile) (hp : t.port = portAccessing s o (bankOf tile)) :
    IssueTouches s t o := by
  refine ⟨fun tile' h' => ?_, fun b e => absurd e (h.not_close b), fun e => ?_⟩
  · rw [hp, IsAccess.unique h' h]
    rfl
  · obtain ⟨b, row, e⟩ | e := e
    · exact absurd e (h.not_open b row)
    · exact absurd e h.not_refresh

theorem issueAccess_rowHits (h : IsAccess o.op tile) :
    (AccessHits s o → (issueAccess o tile s).counters[cntRowHits]'cntRowHits.2 = s.counters[cntRowHits]'cntRowHits.2 + 1)
      ∧ (¬ AccessHits s o → (issueAccess o tile s).counters[cntRowHits]'cntRowHits.2 = s.counters[cntRowHits]'cntRowHits.2) := by
  rw [accessHits_iff h, issueAccess_counters]
  refine ⟨fun hit => ?_, fun miss => ?_⟩
  · rw [if_pos hit, getElem_set_counter, if_pos rfl]
  · rw [if_neg miss]

theorem issueAccess_counters_other {k : Fin 28} (hk : cntRowHits ≠ k) :
    (issueAccess o tile s).counters[k]'k.2 = s.counters[k]'k.2 := by
  rw [issueAccess_counters]
  split
  · rw [getElem_set_counter, if_neg hk]
  · rfl

/-- An access is issued: what is left to show is what follows it in the query table, the window reader and the counters. -/
theorem issued_access (h : IsAccess o.op tile) (hd : o.discard = false) (ha : o.afterReset = false)
    (hfor : IssuedFor s o) (hp : t.port = (issueAccess o tile s).port)
    (hc : ∀ k, k ∉ [cntMergeReads, cntDeadline] → t.counters[k]'k.2 = (issueAccess o tile s).counters[k]'k.2)
    (hm : ((∃ tile word, o.op = .read tile word .merge) → t.counters[cntMergeReads]'cntMergeReads.2 = s.counters[cntMergeReads]'cntMergeReads.2 + 1)
      ∧ ((∀ tile word, o.op ≠ .read tile word .merge) → t.counters[cntMergeReads]'cntMergeReads.2 = s.counters[cntMergeReads]'cntMergeReads.2))
    (hf : IssueMovesFetch s t o) (hw : IssueMovesWindow s t o) (hb : t.sched.baseMode = s.sched.baseMode)
    (hu : Unchanged issueParts s t) : Issued s t o := by
  rw [issueAccess_port] at hp
  exact {
    inFlight := by rw [hp]; rfl
    discard := hd
    afterReset := ha
    issuedFor := hfor
    touches := issueTouches_access h hp
    hits := by
      rw [hc _ (by decide)]
      exact issueAccess_rowHits h
    opens := by
      rw [hc _ (by decide), issueAccess_counters_other (by decide)]
      exact ⟨fun ⟨b, row, e⟩ => absurd e (h.not_open b row), fun _ => rfl⟩
    merges := hm
    others := fun k hk => by
      rw [hc _ (fun h => hk (by revert h; simp; tauto)), issueAccess_counters_other (fun e => hk (by simp [← e]))]
    movesFetch := hf
    movesWindow := hw
    portState := by rw [hp]; rfl
    owed := by rw [hp]; rfl
    refreshLeft := by rw [hp]; rfl
    baseMode := hb
    unchanged := hu }

theorem issueMovesFetch_of_same (h : ∀ tile word seq index, o.op ≠ .read tile word (.fetch seq index))
    (hq : t.queries = s.queries) (hd : t.sched.deadline = s.sched.deadline)
    (hc : t.counters[cntDeadline]'cntDeadline.2 = s.counters[cntDeadline]'cntDeadline.2) : IssueMovesFetch s t o :=
  ⟨fun tile word seq index e => absurd e (h tile word seq index), fun _ => ⟨hq, hd, hc⟩⟩

theorem issueMovesWindow_of_same (h : ∀ tile word y k, o.op ≠ .read tile word (.window y k)) (hw : t.window = s.window)
    (hs : t.sched.windowIssued = s.sched.windowIssued ∧ t.sched.windowAge = s.sched.windowAge) : IssueMovesWindow s t o :=
  ⟨fun tile word y k e => absurd e (h tile word y k), fun _ => ⟨hw, hs.1, hs.2⟩⟩

end Access

section Issues

variable {s t : State} {c : QueryCandidate} {e : Entry} {w : WindowRead} {y k : Nat}

/-- The operation of a fetch READ. -/
def fetchRead (c : QueryCandidate) : InFlight := ⟨.read c.tile c.word (.fetch c.seq c.index), some c.sheet, false, false⟩

/-- The drain head's operation: its merge READ where it needs a merge, and its WRITE otherwise (R41). -/
def drainOperation (e : Entry) : MemoryOp :=
  if e.merge = .needed then .read e.tile e.word .merge else .write e.tile e.word e.codes

/-- The operation of a window READ. -/
def windowRead (s : State) (w : WindowRead) (y k : Nat) : InFlight :=
  ⟨.read (windowTile s w y k) (wordOf (4 * k) y) (.window y k), some w.sheet, false, false⟩

theorem issueFetch_eq (c : QueryCandidate) (s : State) :
    issueFetch c s = judgeDeadline (markIssued c (issueAccess (fetchRead c) c.tile s)) := rfl

set_option Elab.async false in
theorem markIssued_unchanged (c : QueryCandidate) (s : State) : Unchanged [.queries] s (markIssued c s) :=
  setQueries_unchanged _ s

theorem issuedFor_fetch (h : c ∈ queryCandidates s) : IssuedFor s (fetchRead c) := by
  refine ⟨fun tile word seq index e => ?_, fun e => ?_, fun tile word y k e => ?_, fun e => ?_⟩
  · cases e
    exact ⟨c, h, rfl, rfl, rfl, rfl, rfl⟩
  · obtain ⟨_, _, e⟩ | ⟨_, _, _, e⟩ := e <;> nomatch e
  · nomatch e
  · obtain ⟨_, _, e⟩ | ⟨_, e⟩ | e := e <;> nomatch e

theorem issueFetch_issued (h : c ∈ queryCandidates s) : Issued s (issueFetch c s) (fetchRead c) := by
  rw [issueFetch_eq]
  set u := issueAccess (fetchRead c) c.tile s
  have access := issueAccess_unchanged (fetchRead c) c.tile s
  have access_counters {k : Fin 28} (hk : cntRowHits ≠ k) : u.counters[k]'k.2 = s.counters[k]'k.2 := issueAccess_counters_other hk
  have marked := markIssued_unchanged c u
  have judged := judgeDeadline_unchanged (markIssued c u)
  have counters_deadline : (judgeDeadline (markIssued c u)).counters
      = if s.sched.deadline = false ∧ deadlineWanted (markIssued c u) = true then
          u.counters.set cntDeadline (u.counters[cntDeadline]'cntDeadline.2 + 1) else u.counters := by
    rw [judgeDeadline_counters, marked.counters, marked.sched, access.sched]
  have counters_other (k : Fin 28) (hk : cntDeadline ≠ k) : (judgeDeadline (markIssued c u)).counters[k]'k.2 = u.counters[k]'k.2 := by
    rw [counters_deadline]
    split
    · rw [getElem_set_counter, if_neg hk]
    · rfl
  refine issued_access (tile := c.tile) (.inl ⟨_, _, rfl⟩) rfl rfl (issuedFor_fetch h) (judged.port.trans marked.port)
    (fun k hk => counters_other k (fun e => hk (by simp [← e]))) ?_ ?_ ?_ ?_
    (((access.mono (by decide)).andThen marked).andThen judged)
  · rw [counters_other _ (by decide), access_counters (by decide)]
    exact ⟨fun ⟨_, _, e⟩ => (nomatch e), fun _ => rfl⟩
  · refine ⟨fun tile word seq index e => ?_, fun e => absurd rfl (e _ _ _ _)⟩
    cases e
    refine ⟨?_, deadlineLawful_judgeDeadline _, ?_⟩
    · rw [judged.queries]
      exact congrArg (fun q : QueryTable => ({ q with records := q.records.map _ } : QueryTable)) access.queries
    · rw [counters_deadline, judgeDeadline_sched]
      split
      · rw [getElem_set_counter, if_pos rfl, access_counters (by decide)]
      · exact access_counters (by decide)
  · refine issueMovesWindow_of_same nofun (judged.window.trans (marked.window.trans access.window)) ?_
    rw [judgeDeadline_sched, marked.sched, access.sched]
    exact ⟨rfl, rfl⟩
  · rw [judgeDeadline_sched, marked.sched, access.sched]

theorem drainOperation_isAccess (e : Entry) : IsAccess (drainOperation e) e.tile := by
  unfold drainOperation
  split
  · exact .inl ⟨_, _, rfl⟩
  · exact .inr ⟨_, _, rfl⟩

/-- The operation in flight for the drain head. -/
def drainInFlight (e : Entry) : InFlight := ⟨drainOperation e, some e.sheet, false, false⟩

theorem issueDrain_needed (h : e.merge = .needed) (s : State) :
    issueDrain e s = count cntMergeReads (issueAccess (drainInFlight e) e.tile s) := by
  simp only [issueDrain, h, drainInFlight, drainOperation, if_true]
  rfl

theorem issueDrain_write (h : e.merge ≠ .needed) (s : State) :
    issueDrain e s = issueAccess (drainInFlight e) e.tile s := by
  cases hm : e.merge with
  | needed => exact absurd hm h
  | none => simp only [issueDrain, hm, drainInFlight, drainOperation, reduceCtorEq, if_false]; rfl
  | merged => simp only [issueDrain, hm, drainInFlight, drainOperation, reduceCtorEq, if_false]; rfl

theorem drainOperation_not_fetch (e : Entry) (tile word : Nat) (seq : Count32) (index : Nat) :
    drainOperation e ≠ .read tile word (.fetch seq index) := by
  unfold drainOperation
  split <;> nofun

theorem drainOperation_not_window (e : Entry) (tile word y k : Nat) :
    drainOperation e ≠ .read tile word (.window y k) := by
  unfold drainOperation
  split <;> nofun

theorem issuedFor_drain {rest : List Entry} (h : s.drain.queue = e :: rest) : IssuedFor s (drainInFlight e) :=
  ⟨fun tile word seq index e' => absurd e' (drainOperation_not_fetch e tile word seq index), fun _ => ⟨e, rest, h, rfl⟩,
    fun tile word y k e' => absurd e' (drainOperation_not_window e tile word y k), fun e' => by
      have access := drainOperation_isAccess e
      obtain ⟨b, row, e'⟩ | ⟨b, e'⟩ | e' := e'
      · exact absurd e' (access.not_open b row)
      · exact absurd e' (access.not_close b)
      · exact absurd e' access.not_refresh⟩

theorem issueDrain_issued {rest : List Entry} (h : s.drain.queue = e :: rest) :
    Issued s (issueDrain e s) (drainInFlight e) := by
  set u := issueAccess (drainInFlight e) e.tile s
  have access := issueAccess_unchanged (drainInFlight e) e.tile s
  have access_counters {k : Fin 28} (hk : cntRowHits ≠ k) : u.counters[k]'k.2 = s.counters[k]'k.2 := issueAccess_counters_other hk
  have keeps {t : State} (ht : Unchanged [.counters] u t)
      (hc : ∀ k, k ∉ [cntMergeReads, cntDeadline] → t.counters[k]'k.2 = u.counters[k]'k.2)
      (hm : ((∃ tile word, drainOperation e = .read tile word .merge) →
          t.counters[cntMergeReads]'cntMergeReads.2 = s.counters[cntMergeReads]'cntMergeReads.2 + 1)
        ∧ ((∀ tile word, drainOperation e ≠ .read tile word .merge) →
          t.counters[cntMergeReads]'cntMergeReads.2 = s.counters[cntMergeReads]'cntMergeReads.2))
      (hd : t.counters[cntDeadline]'cntDeadline.2 = s.counters[cntDeadline]'cntDeadline.2) : Issued s t (drainInFlight e) :=
    issued_access (drainOperation_isAccess e) rfl rfl (issuedFor_drain h) ht.port hc hm
      (issueMovesFetch_of_same (drainOperation_not_fetch e) (ht.queries.trans access.queries)
        (by rw [ht.sched, access.sched]) hd)
      (issueMovesWindow_of_same (drainOperation_not_window e) (ht.window.trans access.window)
        (by rw [ht.sched, access.sched]; exact ⟨rfl, rfl⟩))
      (by rw [ht.sched, access.sched]) ((access.mono (by decide)).andThen ht)
  by_cases needed : e.merge = .needed
  · have op : drainOperation e = .read e.tile e.word .merge := if_pos needed
    rw [issueDrain_needed needed]
    refine keeps (count_unchanged _ _) (fun k hk => ?_) ⟨fun _ => ?_, fun no => absurd op (no _ _)⟩ ?_
    · rw [count_counters, getElem_set_counter, if_neg (fun e => hk (by simp [← e]))]
    · rw [count_counters, getElem_set_counter, if_pos rfl, access_counters (by decide)]
    · rw [count_counters, getElem_set_counter, if_neg (by decide), access_counters (by decide)]
  · have op : drainOperation e = .write e.tile e.word e.codes := if_neg needed
    rw [issueDrain_write needed]
    refine keeps (.refl _ _) (fun k hk => rfl) ⟨fun ⟨_, _, e⟩ => ?_, fun _ => ?_⟩ ?_
    · rw [op] at e
      nomatch e
    · exact issueAccess_counters_other (by decide)
    · exact issueAccess_counters_other (by decide)

end Issues

section Window

variable {s t : State} {w : WindowRead} {y k : Nat}

set_option Elab.async false in
theorem rowReadable_iff {n y : Nat} : rowReadable s n y = true ↔ RowReadable s n y := by
  unfold rowReadable RowReadable
  cases sheetAt s n with
  | none => simp
  | some x => cases hs : x.state <;> cases hk : x.kind <;> simp [hs, hk]

/-- Rows that are not read leave their VOID codes; the first that is read is offered from its first word (R154, log 12). -/
theorem takeUpRows_readable {readable : Nat → Bool} {next : Nat} (n : Nat) {y : Nat} (w : WindowRead) (le : y ≤ next)
    (lt : next < y + n) (hn : readable next = true) (before : ∀ m, y ≤ m → m < next → readable m = false) :
    takeUpRows readable n y w
      = { w with cursor := some (next, firstWord w), voids := w.voids + (next - y) * w.width } := by
  induction n generalizing y w with
  | zero => omega
  | succ n ih =>
    rw [takeUpRows]
    rcases Nat.eq_or_lt_of_le le with rfl | lt'
    · rw [if_pos hn, Nat.sub_self, Nat.zero_mul]
      rfl
    · rw [before y (Nat.le_refl _) lt', if_neg Bool.false_ne_true, ih _ lt' (by omega) (fun m hm => before m (by omega)),
        show next - y = (next - (y + 1)) + 1 by omega, Nat.add_mul, Nat.one_mul, Nat.add_assoc,
        Nat.add_comm w.width]
      rfl

/-- Rows of which none is read leave the VOID codes of all of them, and the reader is at its end. -/
theorem takeUpRows_none {readable : Nat → Bool} (n : Nat) {y : Nat} (w : WindowRead)
    (none_read : ∀ m, y ≤ m → m < y + n → readable m = false) :
    takeUpRows readable n y w = { w with cursor := none, voids := w.voids + n * w.width } := by
  induction n generalizing y w with
  | zero => simp [takeUpRows]
  | succ n ih =>
    rw [takeUpRows, none_read y (Nat.le_refl _) (by omega), if_neg Bool.false_ne_true, ih _ (fun m hm lt => none_read m (by omega)
      (by omega)), Nat.add_mul, Nat.one_mul, Nat.add_assoc, Nat.add_comm w.width]

/-- The reader after the READ of its offered word. -/
theorem windowAdvanced_advanceWindow (h : w.cursor = some (y, k)) :
    WindowAdvanced s w y k (advanceWindow (rowReadable s w.sheet) w) := by
  have unread {m : Nat} (hm : ¬ RowReadable s w.sheet m) : rowReadable s w.sheet m = false :=
    Bool.eq_false_iff.mpr (mt rowReadable_iff.mp hm)
  simp only [WindowAdvanced, advanceWindow, h]
  refine ⟨fun more => if_pos more, fun next last lt bottom hn before => ?_, fun last none_read => ?_⟩
  · refine (if_neg (Nat.not_lt.2 last)).trans ?_
    exact takeUpRows_readable _ _ lt (by omega) (rowReadable_iff.mpr hn) (fun m hm hlt => unread (before m hm hlt))
  · refine (if_neg (Nat.not_lt.2 last)).trans ?_
    exact takeUpRows_none _ _ (fun m hm hlt => unread (none_read m hm (by omega)))

/-- The word offered to the scheduler (R154). -/
theorem offeredWord_iff : offeredWord s = some (w, y, k) ↔ s.window = some w ∧ w.cursor = some (y, k) ∧ w.waiting = 0 := by
  constructor
  · intro h
    unfold offeredWord at h
    split at h
    · nomatch h
    · split at h
      · nomatch h
      · split at h
        · cases h
          exact ⟨‹_›, ‹_›, ‹_›⟩
        · nomatch h
  · rintro ⟨hw, hc, none_waits⟩
    simp [offeredWord, hw, hc, none_waits]

theorem issuedFor_window (h : offeredWord s = some (w, y, k)) : IssuedFor s (windowRead s w y k) := by
  refine ⟨fun tile word seq index e => ?_, fun e => ?_, fun tile word y k e => ?_, fun e => ?_⟩
  · nomatch e
  · obtain ⟨_, _, e⟩ | ⟨_, _, _, e⟩ := e <;> nomatch e
  · cases e
    exact ⟨w, h, rfl⟩
  · obtain ⟨_, _, e⟩ | ⟨_, e⟩ | e := e <;> nomatch e

theorem issueWindow_issued {promoted : Bool} (h : offeredWord s = some (w, y, k))
    (hp : promoted = true ↔ s.settings.windowStarve ≤ s.sched.windowAge) :
    Issued s (issueWindow promoted w y k s) (windowRead s w y k) := by
  set u := issueAccess (windowRead s w y k) (windowTile s w y k) s with hu
  have access := issueAccess_unchanged (windowRead s w y k) (windowTile s w y k) s
  have access_counters {k : Fin 28} (hk : cntRowHits ≠ k) : u.counters[k]'k.2 = s.counters[k]'k.2 := issueAccess_counters_other hk
  have cursor : w.cursor = some (y, k) := (offeredWord_iff.mp h).2.1
  have sched : (issueWindow promoted w y k s).sched
      = { s.sched with windowIssued := true, windowAge := if promoted then 0 else s.sched.windowAge } := by
    rw [← access.sched]
    rfl
  refine issued_access (tile := windowTile s w y k) (.inl ⟨_, _, rfl⟩) rfl rfl (issuedFor_window h) rfl (fun _ _ => rfl)
    ⟨fun ⟨_, _, e⟩ => (nomatch e), fun _ => access_counters (by decide)⟩ ?_ ?_ ?_ (issueWindow_unchanged _ _ _ _ _)
  · exact issueMovesFetch_of_same nofun access.queries (by rw [sched]) (access_counters (by decide))
  · refine ⟨fun tile word y' k' e => ?_, fun e => absurd rfl (e _ _ _ _)⟩
    cases e
    rw [sched]
    refine ⟨rfl, ?_, w, _, h, rfl, windowAdvanced_advanceWindow cursor⟩
    simp only [hp]
  · rw [sched]

end Window

section Others

variable {s t : State} {b : Fin 8} {row : Nat}

/-- An operation without an owner: an OPEN, a CLOSE or a REFRESH is for no sheet and moves no candidate. -/
def NoAccess (op : MemoryOp) : Prop := ∀ tile, ¬ IsAccess op tile

theorem NoAccess.not_read {op : MemoryOp} (h : NoAccess op) (tile word : Nat) (owner : ReadOwner) :
    op ≠ .read tile word owner := fun e => h tile (.inl ⟨_, _, e⟩)

theorem issued_noAccess {op : MemoryOp} (h : NoAccess op) (hi : t.port.inFlight = some ⟨op, none, false, false⟩)
    (ht : IssueTouches s t ⟨op, none, false, false⟩)
    (hopen : ((∃ b row, op = .openRow b row) → t.counters[cntOpens]'cntOpens.2 = s.counters[cntOpens]'cntOpens.2 + 1)
      ∧ ((∀ b row, op ≠ .openRow b row) → t.counters[cntOpens]'cntOpens.2 = s.counters[cntOpens]'cntOpens.2))
    (hc : ∀ k, k ≠ cntOpens → t.counters[k]'k.2 = s.counters[k]'k.2) (hp : t.port.state = s.port.state)
    (ho : t.port.owed = s.port.owed) (hr : t.port.refreshLeft = s.port.refreshLeft)
    (hs : t.sched = { s.sched with refreshing := t.sched.refreshing }) (hu : Unchanged [.port, .sched, .counters] s t) :
    Issued s t ⟨op, none, false, false⟩ where
  inFlight := hi
  discard := rfl
  afterReset := rfl
  issuedFor := ⟨fun _ _ _ _ e => absurd e (h.not_read _ _ _), fun e => by
    obtain ⟨tile, word, e⟩ | ⟨tile, word, codes, e⟩ := e
    · exact absurd e (h.not_read _ _ _)
    · exact absurd (.inr ⟨_, _, e⟩) (h tile), fun _ _ _ _ e => absurd e (h.not_read _ _ _), fun _ => rfl⟩
  touches := ht
  hits := ⟨fun ⟨tile, e, _⟩ => absurd e (h tile), fun _ => hc _ (by decide)⟩
  opens := hopen
  merges := ⟨fun ⟨_, _, e⟩ => absurd e (h.not_read _ _ _), fun _ => hc _ (by decide)⟩
  others := fun k hk => hc k (fun e => hk (by simp [e]))
  movesFetch := issueMovesFetch_of_same (fun _ _ _ _ => h.not_read _ _ _) hu.queries (by rw [hs]) (hc _ (by decide))
  movesWindow := issueMovesWindow_of_same (fun _ _ _ _ => h.not_read _ _ _) hu.window (by rw [hs]; exact ⟨rfl, rfl⟩)
  portState := hp
  owed := ho
  refreshLeft := hr
  baseMode := by rw [hs]
  unchanged := hu.mono (by decide)

theorem noAccess_open (b : Fin 8) (row : Nat) : NoAccess (.openRow b row) := by
  rintro tile (⟨_, _, e⟩ | ⟨_, _, e⟩) <;> nomatch e

theorem noAccess_close (b : Fin 8) : NoAccess (.closeRow b) := by
  rintro tile (⟨_, _, e⟩ | ⟨_, _, e⟩) <;> nomatch e

set_option Elab.async false in
theorem noAccess_refresh : NoAccess .refresh := by
  rintro tile (⟨_, _, e⟩ | ⟨_, _, e⟩) <;> nomatch e

theorem issueOpen_issued (b : Fin 8) (row : Nat) (s : State) :
    Issued s (issueOpen b row s) ⟨.openRow b row, none, false, false⟩ := by
  refine issued_noAccess (noAccess_open b row) rfl ⟨fun tile e => absurd e (noAccess_open b row tile), nofun, fun _ => rfl⟩
    ⟨fun _ => ?_, fun no => absurd rfl (no b row)⟩ (fun k hk => ?_) rfl rfl rfl rfl
    ((issueOpen_unchanged b row s).mono (by decide))
  · exact (getElem_set_counter _ _).trans (if_pos rfl)
  · exact (getElem_set_counter _ _).trans (if_neg hk.symm)

/-- The port with a CLOSE in flight. -/
def portClosing (s : State) (b : Fin 8) : MemoryPort :=
  { s.port with
    inFlight := some ⟨.closeRow b, none, false, false⟩
    banks := s.port.banks.set b { s.port.banks[b]'b.2 with timer := none, closeWanted := false } }

/-- A CLOSE issued from a state in which only the refresh in progress has been set. -/
theorem issueClose_issued (b : Fin 8) (hu : t = s ∨ t = s.setSched { s.sched with refreshing := true }) :
    Issued s (issueClose b t) ⟨.closeRow b, none, false, false⟩ := by
  have sched : t.sched = { s.sched with refreshing := t.sched.refreshing } := by
    obtain rfl | rfl := hu <;> rfl
  have port : t.port = s.port := by obtain rfl | rfl := hu <;> rfl
  have counters : t.counters = s.counters := by obtain rfl | rfl := hu <;> rfl
  have before : Unchanged [.port, .sched, .counters] s t := by
    obtain rfl | rfl := hu
    · exact .refl _ _
    · exact (setSched_unchanged _ _).mono (by decide)
  have closed : (issueClose b t).port = portClosing s b := by
    rw [portClosing, ← port]
    rfl
  refine issued_noAccess (noAccess_close b) (by rw [closed, portClosing]) ⟨fun tile e => absurd e (noAccess_close b tile), ?_, ?_⟩
    ⟨fun ⟨_, _, e⟩ => (nomatch e), fun _ => ?_⟩ (fun k hk => ?_) (by rw [closed, portClosing]) (by rw [closed, portClosing])
    (by rw [closed, portClosing]) sched
    (before.andThen (issueClose_unchanged b t))
  · intro b' e
    cases e
    rw [closed, portClosing]
  · rintro (⟨_, _, e⟩ | e) <;> nomatch e
  · exact congrArg (·[cntOpens]) counters
  · exact congrArg (·[k]) counters

theorem issueRefresh_issued (s : State) : Issued s (setInFlight (some ⟨.refresh, none, false, false⟩)
    (s.setSched { s.sched with refreshing := false })) ⟨.refresh, none, false, false⟩ := by
  refine issued_noAccess noAccess_refresh rfl ⟨fun tile e => absurd e (noAccess_refresh tile), nofun, fun _ => rfl⟩
    ⟨fun ⟨_, _, e⟩ => (nomatch e), fun _ => rfl⟩ (fun k hk => rfl) rfl rfl rfl rfl
    (((setSched_unchanged _ s).mono (by decide)).andThen (setInFlight_unchanged _ _))

/-- The next operation of a refresh (R117). -/
theorem refreshNext_issued (s : State) : Issued s (refreshNext s) ⟨refreshOperation s, none, false, false⟩ := by
  unfold refreshNext refreshOperation
  cases allBanks.find? (fun b => (s.port.banks[b]'b.2).row.isSome) with
  | none => exact issueRefresh_issued s
  | some b => exact issueClose_issued b (.inr rfl)

/-- A refresh is in progress from its first CLOSE until the issue of its REFRESH (R117). -/
theorem refreshNext_refreshing (s : State) : (refreshNext s).sched.refreshing = true ↔ refreshOperation s ≠ .refresh := by
  unfold refreshNext refreshOperation
  cases allBanks.find? (fun b => (s.port.banks[b]'b.2).row.isSome) <;> simp [issueClose, touchBank, setBank, setInFlight]

end Others

/-! ### The choice order (R112) -/

section Choice

variable {s t : State} {o : InFlight} {c : QueryCandidate} {e : Entry} {w : WindowRead} {y k : Nat}

/-- A CLOSE of the DEADLINE order takes its row from a non-urgent fetch (R119). -/
def Preempts (s : State) (o : InFlight) : Prop :=
  s.sched.refreshing = false ∧ s.port.owed < 8 ∧ s.sched.deadline = true
    ∧ ∃ c, firstUrgent s = some c ∧ o.op = .closeRow (bankOf c.tile)
      ∧ ∃ d ∈ queryCandidates s, d.urgent = false ∧ bankOf d.tile = bankOf c.tile
        ∧ (s.port.banks[bankOf d.tile]'(bankOf d.tile).2).row = some (d.tile / 8)

/-- The counters that an issue can move. -/
abbrev issueCounters : List (Fin 28) :=
  [cntRowHits, cntOpens, cntMergeReads, cntDeadline, cntPreemptions, cntForcedRefreshes]

/-- An issue with its effects, which moves no counter but its own. -/
def IssuedAlone (s t : State) (o : InFlight) : Prop :=
  IssueEffects s t o ∧ ∀ k, k ∉ issueCounters → t.counters[k]'k.2 = s.counters[k]'k.2

/-- The issue from a state whose counters alone have been moved by the place in the choice order. -/
theorem issueEffects_of_issued {v : Vector Count32 28} (h : Issued (s.setCounters v) t o)
    (same : ∀ k, k ∉ [cntPreemptions, cntForcedRefreshes] → v[k]'k.2 = s.counters[k]'k.2)
    (preempts : (Preempts s o → v[cntPreemptions]'cntPreemptions.2 = s.counters[cntPreemptions]'cntPreemptions.2 + 1)
      ∧ (¬ Preempts s o → v[cntPreemptions]'cntPreemptions.2 = s.counters[cntPreemptions]'cntPreemptions.2))
    (forced : (s.sched.refreshing = false → 8 ≤ s.port.owed → v[cntForcedRefreshes]'cntForcedRefreshes.2 = s.counters[cntForcedRefreshes]'cntForcedRefreshes.2 + 1)
      ∧ (s.sched.refreshing = true ∨ s.port.owed < 8 → v[cntForcedRefreshes]'cntForcedRefreshes.2 = s.counters[cntForcedRefreshes]'cntForcedRefreshes.2)) :
    IssuedAlone s t o := by
  have before {k : Fin 28} (hk : k ∉ [cntPreemptions, cntForcedRefreshes]) : (s.setCounters v).counters[k]'k.2 = s.counters[k]'k.2 :=
    same k hk
  have kept {k : Fin 28} (hk : k ∉ [cntRowHits, cntOpens, cntMergeReads, cntDeadline]) : t.counters[k]'k.2 = v[k]'k.2 := h.others k hk
  have hits := h.hits
  have opens := h.opens
  have merges := h.merges
  have fetch := h.movesFetch
  rw [before (by decide)] at hits opens merges
  rw [IssueMovesFetch, before (by decide)] at fetch
  refine ⟨⟨h.discard, h.afterReset, h.issuedFor, h.touches, ?_, fetch, h.movesWindow, h.portState, h.owed, h.refreshLeft,
    h.baseMode, ((setCounters_unchanged v s).mono (by decide)).trans h.unchanged⟩, fun k hk => ?_⟩
  case refine_2 =>
    simp only [issueCounters, List.mem_cons, List.not_mem_nil, or_false, not_or] at hk
    exact (kept (by simp [hk])).trans (same k (by simp [hk]))
  rw [← kept (k := cntPreemptions) (by decide)] at preempts
  rw [← kept (k := cntForcedRefreshes) (by decide)] at forced
  exact ⟨hits.1, hits.2, opens.1, opens.2, merges.1, merges.2, preempts.1, preempts.2, forced.1, forced.2⟩

/-- The issue at a place of the choice order that counts neither a preemption nor a forced refresh. -/
theorem issueEffects_plain (h : Issued s t o) (calm : ¬ Preempts s o) (unforced : s.sched.refreshing = true ∨ s.port.owed < 8) :
    IssuedAlone s t o :=
  issueEffects_of_issued (v := s.counters) h (fun _ _ => rfl) ⟨fun p => absurd p calm, fun _ => rfl⟩
    ⟨fun hr ho => by
      obtain h | h := unforced
      · rw [hr] at h
        nomatch h
      · exact absurd h (Nat.not_lt.2 ho), fun _ => rfl⟩

theorem issueEffects_forced (hr : s.sched.refreshing = false) (ho : 8 ≤ s.port.owed)
    (h : Issued (count cntForcedRefreshes s) t o) : IssuedAlone s t o := by
  have calm : ¬ Preempts s o := fun p => absurd p.2.1 (Nat.not_lt.2 ho)
  refine issueEffects_of_issued h (fun k hk => ?_) ⟨fun p => absurd p calm, fun _ => ?_⟩ ⟨fun _ _ => ?_, fun h => ?_⟩
  · exact (getElem_set_counter _ _).trans (if_neg (fun e => hk (by simp [← e])))
  · exact (getElem_set_counter _ _).trans (if_neg (by decide))
  · exact (getElem_set_counter _ _).trans (if_pos rfl)
  · rw [hr] at h
    exact absurd (h.resolve_left nofun) (Nat.not_lt.2 ho)

/-! ### Toward an access (R106) -/

variable {tile : Nat} {access closing : State → State} {op : MemoryOp}

theorem toward_closed (h : (s.port.banks[bankOf tile]'(bankOf tile).2).row = none) :
    toward tile access closing s = issueOpen (bankOf tile) (tile / 8) s
      ∧ operationToward s tile op = .openRow (bankOf tile) (tile / 8) := by
  simp only [toward, operationToward, h, bankRowOf, and_self]

theorem toward_hit (h : (s.port.banks[bankOf tile]'(bankOf tile).2).row = some (tile / 8)) :
    toward tile access closing s = access s ∧ operationToward s tile op = op := by
  simp only [toward, operationToward, h, bankRowOf, if_true, and_self]

theorem toward_conflict {row : Nat} (h : (s.port.banks[bankOf tile]'(bankOf tile).2).row = some row) (hr : row ≠ tile / 8) :
    toward tile access closing s = issueClose (bankOf tile) (closing s)
      ∧ operationToward s tile op = .closeRow (bankOf tile) := by
  simp only [toward, operationToward, h, bankRowOf]
  exact ⟨if_neg hr, if_neg hr⟩

/-- The three ways toward an access: OPEN its row, CLOSE another row, or the access itself. -/
theorem toward_cases (s : State) (tile : Nat) (access closing : State → State) (op : MemoryOp) :
    (toward tile access closing s = issueOpen (bankOf tile) (tile / 8) s
        ∧ operationToward s tile op = .openRow (bankOf tile) (tile / 8))
      ∨ (toward tile access closing s = access s ∧ operationToward s tile op = op)
      ∨ (toward tile access closing s = issueClose (bankOf tile) (closing s)
        ∧ operationToward s tile op = .closeRow (bankOf tile)) := by
  cases h : (s.port.banks[bankOf tile]'(bankOf tile).2).row with
  | none => exact .inl (toward_closed h)
  | some row =>
    by_cases hr : row = tile / 8
    · exact .inr (.inl (toward_hit (hr ▸ h)))
    · exact .inr (.inr (toward_conflict h hr))

/-- Toward an access that counts nothing of its own. -/
theorem toward_issued {o : InFlight} (h : Issued s (access s) o) (hr : (access s).sched.refreshing = s.sched.refreshing) :
    ∃ o', Issued s (toward tile access id s) o' ∧ o'.op = operationToward s tile o.op
      ∧ (toward tile access id s).sched.refreshing = s.sched.refreshing := by
  obtain ⟨e, e'⟩ | ⟨e, e'⟩ | ⟨e, e'⟩ := toward_cases s tile access id o.op <;> rw [e, e']
  · exact ⟨_, issueOpen_issued _ _ s, rfl, rfl⟩
  · exact ⟨o, h, rfl, hr⟩
  · exact ⟨_, issueClose_issued _ (.inl rfl), rfl, rfl⟩

set_option Elab.async false in
theorem issueFetch_refreshing (c : QueryCandidate) (s : State) : (issueFetch c s).sched.refreshing = s.sched.refreshing := by
  rw [issueFetch_eq, judgeDeadline_sched, (markIssued_unchanged _ _).sched, (issueAccess_unchanged _ _ _).sched]

theorem issueDrain_refreshing (e : Entry) (s : State) : (issueDrain e s).sched.refreshing = s.sched.refreshing := by
  by_cases needed : e.merge = .needed
  · rw [issueDrain_needed needed, (count_unchanged _ _).sched, (issueAccess_unchanged _ _ _).sched]
  · rw [issueDrain_write needed, (issueAccess_unchanged _ _ _).sched]

theorem issueWindow_refreshing (promoted : Bool) (w : WindowRead) (y k : Nat) (s : State) :
    (issueWindow promoted w y k s).sched.refreshing = s.sched.refreshing := by
  have access := (issueAccess_unchanged (windowRead s w y k) (windowTile s w y k) s).sched
  rw [← access]
  rfl

theorem mem_queryCandidates_of_first (h : firstQuery s = some c) : c ∈ queryCandidates s := mem_of_hitFirst h

/-- The first urgent fetch is one of the urgent candidates (R115). -/
theorem firstUrgent_urgent (h : firstUrgent s = some c) : c ∈ queryCandidates s ∧ c.urgent = true := by
  unfold firstUrgent at h
  dsimp only at h
  split at h
  · nomatch h
  · have hc := mem_of_hitFirst h
    rw [List.mem_filter, List.mem_filter] at hc
    exact hc.1

/-- An operation has been issued with no effect on the refresh in progress. -/
def IssuesToward (s t : State) (op : MemoryOp) : Prop :=
  ∃ o, Issued s t o ∧ o.op = op ∧ t.sched.refreshing = s.sched.refreshing

theorem towardQuery_issued (h : c ∈ queryCandidates s) :
    IssuesToward s (towardQuery c s) (operationToward s c.tile (.read c.tile c.word (.fetch c.seq c.index))) :=
  toward_issued (issueFetch_issued h) (issueFetch_refreshing c s)

theorem towardDrain_issued {rest : List Entry} (h : s.drain.queue = e :: rest) :
    IssuesToward s (towardDrain e s) (operationToward s e.tile (drainOperation e)) :=
  toward_issued (issueDrain_issued h) (issueDrain_refreshing e s)

theorem towardWindow_issued {promoted : Bool} (h : offeredWord s = some (w, y, k))
    (hp : promoted = true ↔ s.settings.windowStarve ≤ s.sched.windowAge) :
    IssuesToward s (towardWindow promoted w y k s) (operationToward s (windowTile s w y k)
      (.read (windowTile s w y k) (wordOf (4 * k) y) (.window y k))) :=
  toward_issued (issueWindow_issued h hp) (issueWindow_refreshing promoted w y k s)

/-- A non-urgent WAITING fetch needs the row open in the bank (R119). -/
theorem countPreemption_cond {b : Fin 8} :
    (queryCandidates s).any (fun c => !c.urgent && bankOf c.tile == b && isOpenOn s c.tile) = true
      ↔ ∃ d ∈ queryCandidates s, d.urgent = false ∧ bankOf d.tile = b
          ∧ (s.port.banks[bankOf d.tile]'(bankOf d.tile).2).row = some (d.tile / 8) := by
  simp [isOpenOn, bankRowOf, and_assoc]

/-- The DEADLINE order's issue, with its preemption counted (R115, R119). -/
theorem towardUrgent_effects (hr : s.sched.refreshing = false) (ho : s.port.owed < 8) (hd : s.sched.deadline = true)
    (h : firstUrgent s = some c) : ∃ o, (towardUrgent c s).port.inFlight = some o ∧ IssuedAlone s (towardUrgent c s) o
      ∧ o.op = operationToward s c.tile (.read c.tile c.word (.fetch c.seq c.index))
      ∧ (towardUrgent c s).sched.refreshing = s.sched.refreshing := by
  have plain {t : State} {o : InFlight} (issued : Issued s t o) (not_close : ∀ b, o.op ≠ .closeRow b) : IssuedAlone s t o :=
    issueEffects_plain issued (fun ⟨_, _, _, _, _, e, _⟩ => not_close _ e) (.inr ho)
  obtain ⟨e, e'⟩ | ⟨e, e'⟩ | ⟨e, e'⟩ := toward_cases s c.tile (issueFetch c) (countPreemption (bankOf c.tile))
    (.read c.tile c.word (.fetch c.seq c.index)) <;> rw [towardUrgent, e, e']
  · have issued := issueOpen_issued (bankOf c.tile) (c.tile / 8) s
    exact ⟨_, issued.inFlight, plain issued nofun, rfl, rfl⟩
  · have issued := issueFetch_issued (firstUrgent_urgent h).1
    exact ⟨_, issued.inFlight, plain issued nofun, rfl, issueFetch_refreshing c s⟩
  · set u := countPreemption (bankOf c.tile) s with hu
    have issued : Issued u (issueClose (bankOf c.tile) u) ⟨.closeRow (bankOf c.tile), none, false, false⟩ :=
      issueClose_issued (bankOf c.tile) (.inl rfl)
    have sched : u.sched = s.sched := (countPreemption_unchanged (bankOf c.tile) s).sched
    refine ⟨_, issued.inFlight, ?_, rfl, congrArg Scheduler.refreshing sched⟩
    have preempts_iff : Preempts s ⟨.closeRow (bankOf c.tile), none, false, false⟩
        ↔ (queryCandidates s).any (fun d => !d.urgent && bankOf d.tile == bankOf c.tile && isOpenOn s d.tile) = true := by
      rw [countPreemption_cond]
      refine ⟨fun ⟨_, _, _, c', hc', _, found⟩ => ?_, fun found => ⟨hr, ho, hd, c, h, rfl, found⟩⟩
      cases h.symm.trans hc'
      exact found
    by_cases found : (queryCandidates s).any (fun d => !d.urgent && bankOf d.tile == bankOf c.tile && isOpenOn s d.tile) = true
    · have counted : u = count cntPreemptions s := if_pos found
      rw [counted] at issued ⊢
      refine issueEffects_of_issued issued (fun k hk => ?_) ⟨fun _ => ?_, fun no => absurd (preempts_iff.mpr found) no⟩
        ⟨fun _ h8 => absurd ho (Nat.not_lt.2 h8), fun _ => ?_⟩
      · exact (getElem_set_counter _ _).trans (if_neg (fun e => hk (by simp [← e])))
      · exact (getElem_set_counter _ _).trans (if_pos rfl)
      · exact (getElem_set_counter _ _).trans (if_neg (by decide))
    · have same : u = s := if_neg found
      rw [same] at issued ⊢
      exact issueEffects_plain issued (mt preempts_iff.mp found) (.inr ho)

end Choice

/-! ### The steps of the order -/

section Order

variable {s t : State} {c : QueryCandidate} {e : Entry} {rest : List Entry} {w : WindowRead} {y k : Nat}

theorem choose_of_busy (h : s.port.state = .init ∨ s.port.inFlight ≠ none) : choose s = s := by
  refine if_neg fun ⟨run, idle⟩ => ?_
  obtain h | h := h
  · rw [run] at h
    nomatch h
  · exact h idle

theorem choose_of_idle (run : s.port.state = .run) (idle : s.port.inFlight = none) : choose s = chooseStep s :=
  if_pos ⟨run, idle⟩

/-- The DEADLINE order's candidate, where the flag is set. -/
def urgentChoice (s : State) : Option QueryCandidate := if s.sched.deadline then firstUrgent s else none

theorem urgentChoice_calm (h : s.sched.deadline = false) : urgentChoice s = none := by simp [urgentChoice, h]

set_option Elab.async false in
theorem chooseStep_refreshing (h : s.sched.refreshing = true) : chooseStep s = refreshNext s := if_pos h

section NotRefreshing

variable (hr : s.sched.refreshing = false)
include hr

theorem chooseStep_forced (h : 8 ≤ s.port.owed) : chooseStep s = refreshNext (count cntForcedRefreshes s) := by
  simp [chooseStep, hr, h]

theorem chooseStep_urgent (h : s.port.owed < 8) (hc : urgentChoice s = some c) : chooseStep s = towardUrgent c s := by
  unfold urgentChoice at hc
  simp [chooseStep, hr, Nat.not_le.2 h, hc]

theorem chooseStep_owed (h8 : s.port.owed < 8) (h4 : 4 ≤ s.port.owed) (hc : urgentChoice s = none) :
    chooseStep s = refreshNext s := by
  unfold urgentChoice at hc
  simp only [chooseStep, hr, Bool.false_eq_true, if_false, if_neg (Nat.not_le.2 h8), hc, if_pos h4]

theorem chooseStep_promoted (h : s.port.owed < 4) (hc : urgentChoice s = none) (hw : promotedWord s = some (w, y, k)) :
    chooseStep s = towardWindow true w y k s := by
  unfold urgentChoice at hc
  simp only [chooseStep, hr, Bool.false_eq_true, if_false, if_neg (show ¬ 8 ≤ s.port.owed by omega), hc,
    if_neg (Nat.not_le.2 h), hw]

theorem chooseStep_unforced (h : s.port.owed < 4) (hc : urgentChoice s = none) (hw : promotedWord s = none) :
    chooseStep s = chooseUnforced s := by
  unfold urgentChoice at hc
  simp only [chooseStep, hr, Bool.false_eq_true, if_false, if_neg (show ¬ 8 ≤ s.port.owed by omega), hc,
    if_neg (Nat.not_le.2 h), hw]

end NotRefreshing

theorem promotedWord_some (h : promotedWord s = some (w, y, k)) :
    offeredWord s = some (w, y, k) ∧ s.settings.windowStarve ≤ s.sched.windowAge := by
  unfold promotedWord at h
  split at h
  · exact ⟨h, ‹_›⟩
  · nomatch h

theorem promotedWord_none (h : offeredWord s = none ∨ s.sched.windowAge < s.settings.windowStarve) :
    promotedWord s = none := by
  unfold promotedWord
  split
  · exact h.resolve_right (by omega)
  · rfl

theorem chooseUnforced_of_access (h : towardByBaseMode s = some t) : chooseUnforced s = t := by
  simp only [chooseUnforced, h]

set_option Elab.async false in
theorem chooseUnforced_of_owed (h : towardByBaseMode s = none) (ho : 1 ≤ s.port.owed) : chooseUnforced s = refreshNext s := by
  simp only [chooseUnforced, h, if_pos ho]

theorem chooseUnforced_of_close {b : Fin 8} (h : towardByBaseMode s = none) (ho : s.port.owed = 0)
    (hb : idleCloseBank s = some b) : chooseUnforced s = issueClose b s := by
  simp only [chooseUnforced, h, hb, if_neg (show ¬ 1 ≤ s.port.owed by omega)]

theorem chooseUnforced_of_nothing (h : towardByBaseMode s = none) (ho : s.port.owed = 0) (hb : idleCloseBank s = none) :
    chooseUnforced s = s := by
  simp only [chooseUnforced, h, hb, if_neg (show ¬ 1 ≤ s.port.owed by omega)]

/-- An access by the base mode's order is toward a candidate: a fetch, the drain head, or the window word, which is not
promoted. -/
theorem towardByBaseMode_issued (h : towardByBaseMode s = some t) (hw : promotedWord s = none) :
    ∃ op, IssuesToward s t op := by
  have query {x : State} (hx : (firstQuery s).map (fun c => towardQuery c s) = some x) : ∃ op, IssuesToward s x op := by
    obtain ⟨c, hc, rfl⟩ := Option.map_eq_some_iff.1 hx
    exact ⟨_, towardQuery_issued (mem_queryCandidates_of_first hc)⟩
  have window {x : State} (hx : (offeredWord s).map (fun (w, y, k) => towardWindow false w y k s) = some x) :
      ∃ op, IssuesToward s x op := by
    obtain ⟨⟨w, y, k⟩, hc, rfl⟩ := Option.map_eq_some_iff.1 hx
    refine ⟨_, towardWindow_issued hc ⟨nofun, fun starved => ?_⟩⟩
    rw [promotedWord, if_pos starved, hc] at hw
    nomatch hw
  have drain {x : State} (hx : s.drain.queue.head?.map (fun e => towardDrain e s) = some x) :
      ∃ op, IssuesToward s x op := by
    obtain ⟨e, he, rfl⟩ := Option.map_eq_some_iff.1 hx
    obtain ⟨rest, hq⟩ := List.head?_eq_some_iff.1 he
    exact ⟨_, towardDrain_issued hq⟩
  unfold towardByBaseMode at h
  dsimp only at h
  split at h <;> simp only [Option.or_eq_some_iff] at h
  · obtain h | ⟨-, h | ⟨-, h⟩⟩ := h
    · exact query h
    · exact window h
    · exact drain h
  · obtain h | ⟨-, h | ⟨-, h⟩⟩ := h
    · exact drain h
    · exact query h
    · exact window h

/-- A choice that makes no access towards an urgent fetch counts no preemption. -/
theorem not_preempts_of_urgentChoice (h : urgentChoice s = none) (o : InFlight) : ¬ Preempts s o := by
  rintro ⟨-, -, hd, c, hc, -⟩
  rw [urgentChoice, if_pos hd, hc] at h
  nomatch h

/-- What a choice has done: nothing, or it has issued an operation with that operation's effects (R105 to R107). -/
def ChoiceMade (s t : State) : Prop := t = s ∨ ∃ o, t.port.inFlight = some o ∧ IssuedAlone s t o

theorem choiceMade_refreshNext (h : s.sched.refreshing = true ∨ s.port.owed < 8 ∧ urgentChoice s = none) :
    ChoiceMade s (refreshNext s) := by
  have issued := refreshNext_issued s
  refine .inr ⟨_, issued.inFlight, ?_⟩
  obtain hr | ⟨ho, hc⟩ := h
  · exact issueEffects_plain issued (fun p => nomatch hr.symm.trans p.1) (.inl hr)
  · exact issueEffects_plain issued (not_preempts_of_urgentChoice hc _) (.inr ho)

theorem choiceMade_issued {o : InFlight} (ho : s.port.owed < 8) (hc : urgentChoice s = none) (h : Issued s t o) :
    ChoiceMade s t := .inr ⟨_, h.inFlight, issueEffects_plain h (not_preempts_of_urgentChoice hc _) (.inr ho)⟩

theorem choiceMade_chooseUnforced (ho : s.port.owed < 8) (hc : urgentChoice s = none) (hw : promotedWord s = none) :
    ChoiceMade s (chooseUnforced s) := by
  cases ht : towardByBaseMode s with
  | some t =>
    obtain ⟨op, o, issued, -, -⟩ := towardByBaseMode_issued ht hw
    rw [chooseUnforced_of_access ht]
    exact choiceMade_issued ho hc issued
  | none =>
    rcases Nat.eq_zero_or_pos s.port.owed with none_owed | owed
    · cases hb : idleCloseBank s with
      | none => exact .inl (chooseUnforced_of_nothing ht none_owed hb)
      | some b =>
        rw [chooseUnforced_of_close ht none_owed hb]
        exact choiceMade_issued ho hc (issueClose_issued b (.inl rfl))
    · rw [chooseUnforced_of_owed ht owed]
      exact choiceMade_refreshNext (.inr ⟨ho, hc⟩)

theorem choiceMade_chooseStep (s : State) : ChoiceMade s (chooseStep s) := by
  cases hr : s.sched.refreshing with
  | true =>
    rw [chooseStep_refreshing hr]
    exact choiceMade_refreshNext (.inl hr)
  | false =>
    rcases Nat.lt_or_ge s.port.owed 8 with h8 | h8
    · cases hc : urgentChoice s with
      | some c =>
        have set : s.sched.deadline = true := by
          by_contra clear
          rw [urgentChoice_calm (Bool.eq_false_iff.mpr clear)] at hc
          nomatch hc
        have first : firstUrgent s = some c := (if_pos set).symm.trans hc
        obtain ⟨o, inFlight, effects, -, -⟩ := towardUrgent_effects hr h8 set first
        rw [chooseStep_urgent hr h8 hc]
        exact .inr ⟨o, inFlight, effects⟩
      | none =>
        rcases Nat.lt_or_ge s.port.owed 4 with h4 | h4
        · cases hw : promotedWord s with
          | some p =>
            obtain ⟨w, y, k⟩ := p
            obtain ⟨offered, starved⟩ := promotedWord_some hw
            obtain ⟨o, issued, -, -⟩ := towardWindow_issued offered (promoted := true) ⟨fun _ => starved, fun _ => rfl⟩
            rw [chooseStep_promoted hr h4 hc hw]
            exact choiceMade_issued h8 hc issued
          | none =>
            rw [chooseStep_unforced hr h4 hc hw]
            exact choiceMade_chooseUnforced h8 hc hw
        · rw [chooseStep_owed hr h8 h4 hc]
          exact choiceMade_refreshNext (.inr ⟨h8, hc⟩)
    · have issued := refreshNext_issued (count cntForcedRefreshes s)
      rw [chooseStep_forced hr h8]
      exact .inr ⟨_, issued.inFlight, issueEffects_forced hr h8 issued⟩

theorem choiceMade_choose (s : State) : ChoiceMade s (choose s) := by
  unfold choose
  split
  · exact choiceMade_chooseStep s
  · exact .inl rfl

theorem towardByBaseMode_none (hq : firstQuery s = none) (hw : offeredWord s = none) (hd : s.drain.queue = []) :
    towardByBaseMode s = none := by
  simp only [towardByBaseMode, hq, hw, hd]
  cases s.sched.baseMode <;> rfl

set_option Elab.async false in
theorem allBanks_eq : allBanks = List.finRange 8 := by decide

theorem idleCloseBank_some {b : Fin 8} (hb : (s.port.banks[b]'b.2).closeWanted = true) (ho : (s.port.banks[b]'b.2).row ≠ none)
    (lowest : ∀ a : Fin 8, a < b → ¬ ((s.port.banks[a]'a.2).closeWanted = true ∧ (s.port.banks[a]'a.2).row ≠ none)) :
    idleCloseBank s = some b := by
  unfold idleCloseBank
  rw [allBanks_eq, List.find?_eq_some_iff_getElem]
  refine ⟨?_, b, by simp, by simp, fun j hj => ?_⟩
  · rw [hb, Bool.true_and]
    exact Option.isSome_iff_ne_none.2 ho
  · simpa [imp_iff_not_or] using lowest ⟨j, by omega⟩ hj

theorem idleCloseBank_none (h : ∀ b : Fin 8, (s.port.banks[b]'b.2).closeWanted = false) : idleCloseBank s = none := by
  unfold idleCloseBank
  rw [List.find?_eq_none]
  intro b _
  rw [h b]
  exact Bool.false_ne_true

end Order

/-- Settles O48. -/
theorem choiceIssuesByTheFirstStepThatApplies : Obligations.ChoiceIssuesByTheFirstStepThatApplies := by
  unfold Obligations.ChoiceIssuesByTheFirstStepThatApplies
  refine fun s => ⟨choose_of_busy, fun run idle => ?_⟩
  intro takes issues refreshes query windowTarget drain calm
  have step : choose s = chooseStep s := choose_of_idle run idle
  have takes_of {t : State} {o : InFlight} (e : choose s = t) (h : t.port.inFlight = some o) : takes o.op :=
    ⟨o, (congrArg (fun u : State => u.port.inFlight) e).trans h, rfl⟩
  have refreshes_of {u : State} (e : choose s = refreshNext u) (hu : refreshOperation u = refreshOperation s) : refreshes := by
    refine ⟨hu ▸ takes_of e (refreshNext_issued u).inFlight, ?_⟩
    rw [e, refreshNext_refreshing, hu]
  have issues_of {t : State} {op : MemoryOp} (hr : s.sched.refreshing = false) (e : choose s = t) (h : IssuesToward s t op) :
      issues op := by
    obtain ⟨o, issued, rfl, refreshing⟩ := h
    exact ⟨takes_of e issued.inFlight, (congrArg (fun u : State => u.sched.refreshing) e).trans (refreshing.trans hr)⟩
  have unforced (h : calm) : choose s = chooseUnforced s := by
    obtain ⟨hr, hd, ho, hw⟩ := h
    exact step.trans (chooseStep_unforced hr ho (urgentChoice_calm hd) (promotedWord_none hw))
  have unpromoted (h : calm) {w : WindowRead} {y k : Nat} (hw : offeredWord s = some (w, y, k)) :
      false = true ↔ s.settings.windowStarve ≤ s.sched.windowAge := by
    obtain ⟨-, -, -, fresh⟩ := h
    rw [hw] at fresh
    exact ⟨nofun, fun starved => absurd (fresh.resolve_left nofun) (Nat.not_lt.2 starved)⟩
  have access (h : calm) {t : State} {op : MemoryOp} (ht : towardByBaseMode s = some t) (issued : IssuesToward s t op) :
      issues op := issues_of h.1 ((unforced h).trans (chooseUnforced_of_access ht)) issued
  refine ⟨fun hr => refreshes_of (step.trans (chooseStep_refreshing hr)) rfl,
    fun hr h8 => ⟨refreshes_of (step.trans (chooseStep_forced hr h8)) rfl, ?_⟩, fun c hr h8 hd hc => ?_,
    fun hr hd h4 => ?_, fun w y k hr hd h4 hw starved => ?_, fun c h mode hc => ?_, fun w y k h mode hc hw => ?_,
    fun e rest h mode hc hw hq => ?_, fun e rest h mode hq => ?_, fun c h mode hq hc => ?_, fun w y k h mode hq hc hw => ?_,
    fun h hc hw hq => ⟨fun owed => ?_, fun b none_owed hb open_b lowest => ?_, fun none_owed unmarked => ?_⟩, ?_, ?_⟩
  · rw [step, chooseStep_forced hr h8, (refreshNext_issued _).others _ (by decide)]
    exact (getElem_set_counter _ _).trans (if_pos rfl)
  · obtain ⟨o, inFlight, -, op, refreshing⟩ := towardUrgent_effects hr h8 hd hc
    have e : choose s = towardUrgent c s := step.trans (chooseStep_urgent hr h8 ((if_pos hd).trans hc))
    refine ⟨?_, ?_⟩
    · have took := takes_of e inFlight
      rwa [op] at took
    · rw [e, refreshing, hr]
  · rcases Nat.lt_or_ge s.port.owed 8 with h8 | h8
    · exact refreshes_of (step.trans (chooseStep_owed hr h8 h4 (urgentChoice_calm hd))) rfl
    · exact refreshes_of (step.trans (chooseStep_forced hr h8)) rfl
  · refine issues_of hr (step.trans (chooseStep_promoted hr h4 (urgentChoice_calm hd) ?_))
      (towardWindow_issued hw ⟨fun _ => starved, fun _ => rfl⟩)
    rw [promotedWord, if_pos starved, hw]
  · exact access h (by simp only [towardByBaseMode, mode, hc]; rfl) (towardQuery_issued (mem_queryCandidates_of_first hc))
  · exact access h (by simp only [towardByBaseMode, mode, hc, hw]; rfl) (towardWindow_issued hw (unpromoted h hw))
  · exact access h (by simp only [towardByBaseMode, mode, hc, hw, hq]; rfl) (towardDrain_issued hq)
  · exact access h (by simp only [towardByBaseMode, mode, hq]; rfl) (towardDrain_issued hq)
  · exact access h (by simp only [towardByBaseMode, mode, hc, hq]; rfl) (towardQuery_issued (mem_queryCandidates_of_first hc))
  · exact access h (by simp only [towardByBaseMode, mode, hc, hw, hq]; rfl) (towardWindow_issued hw (unpromoted h hw))
  · exact refreshes_of ((unforced h).trans (chooseUnforced_of_owed (towardByBaseMode_none hc hw hq) owed)) rfl
  · refine issues_of h.1 ((unforced h).trans (chooseUnforced_of_close (towardByBaseMode_none hc hw hq) none_owed
      (idleCloseBank_some hb open_b lowest))) ⟨_, issueClose_issued b (.inl rfl), rfl, rfl⟩
  · exact (unforced h).trans (chooseUnforced_of_nothing (towardByBaseMode_none hc hw hq) none_owed
      (idleCloseBank_none unmarked))
  · intro none_issued
    obtain same | ⟨o, issued, -⟩ := choiceMade_choose s
    · exact same
    · exact nomatch none_issued.symm.trans issued
  · intro o ho
    obtain same | ⟨o', issued, effects⟩ := choiceMade_choose s
    · rw [same, idle] at ho
      nomatch ho
    · cases ho.symm.trans issued
      exact effects.1

/-! ### What a choice leaves as it is -/

section Left

variable (s : State)

theorem choose_counters {k : Fin 28} (hk : k ∉ issueCounters) : (choose s).counters[k]'k.2 = s.counters[k]'k.2 := by
  obtain same | ⟨o, -, -, kept⟩ := choiceMade_choose s
  · rw [same]
  · exact kept k hk

/-- The table with a fetch of one record ISSUED (R80). -/
def issuedTable (seq : Count32) (index : Nat) (q : QueryTable) : QueryTable :=
  { q with records := q.records.map (fun r =>
      if r.seq = seq then { r with fetches := r.fetches.modify index (fun f => { f with state := .issued }) } else r) }

/-- The query table after a choice: as it was, or with one fetch ISSUED (R106). -/
theorem choose_queries : (choose s).queries = s.queries ∨ ∃ seq index, (choose s).queries = issuedTable seq index s.queries := by
  obtain same | ⟨o, -, ⟨-, -, -, -, -, ⟨fetch, other⟩, -⟩, -⟩ := choiceMade_choose s
  · exact .inl (by rw [same])
  · by_cases h : ∃ tile word seq index, o.op = .read tile word (.fetch seq index)
    · obtain ⟨tile, word, seq, index, e⟩ := h
      exact .inr ⟨seq, index, (fetch tile word seq index e).1⟩
    · exact .inl (other fun tile word seq index e => h ⟨tile, word, seq, index, e⟩).1

theorem choose_nextSeq : (choose s).queries.nextSeq = s.queries.nextSeq := by
  obtain e | ⟨seq, index, e⟩ := choose_queries s <;> rw [e]
  rfl

theorem choose_records_length : (choose s).queries.records.length = s.queries.records.length := by
  obtain e | ⟨seq, index, e⟩ := choose_queries s <;> rw [e]
  exact List.length_map _

theorem choose_port :
    (choose s).port.state = s.port.state ∧ (choose s).port.owed = s.port.owed
      ∧ (choose s).port.refreshLeft = s.port.refreshLeft := by
  obtain same | ⟨o, -, ⟨-, -, -, -, -, -, -, state, owed, left, -⟩, -⟩ := choiceMade_choose s
  · rw [same]
    exact ⟨rfl, rfl, rfl⟩
  · exact ⟨state, owed, left⟩

end Left

/-! ### Candidates (R108, R113, R115) -/

section Candidates

variable {s : State} {c : QueryCandidate} {tile : Nat}

theorem queryCandidates_eq (s : State) : queryCandidates s = s.queries.records.flatMap (fun r =>
    (r.fetches.zipIdx.filter (fun p => p.1.state == .waiting)).map (fun p =>
      { seq := r.seq, index := p.2, urgent := r.urgent, due := r.due, sheet := r.sheet, tile := p.1.tile, word := p.1.word })) :=
  congrArg (s.queries.records.flatMap ·) (funext fun r => fetchCandidates_eq r r.fetches 0)

theorem geometryOf_eq {n : Nat} {x : Sheet} (h : sheetAt s n = some x) : geometryOf s n = x.geom := by
  simp only [geometryOf, h]

theorem windowTile_eq {w : WindowRead} {x : Sheet} (h : sheetAt s w.sheet = some x) (y k : Nat) :
    windowTile s w y k = x.geom.base + (y / 32) * (x.geom.width / 32) + k / 8 := by
  rw [windowTile, geometryOf_eq h, tileOf]
  omega

theorem mem_candidateTiles : tile ∈ candidateTiles s ↔
    (∃ c ∈ queryCandidates s, c.tile = tile) ∨ (∃ e rest, s.drain.queue = e :: rest ∧ e.tile = tile)
      ∨ ∃ w y k, offeredWord s = some (w, y, k) ∧ windowTile s w y k = tile := by
  unfold candidateTiles
  rw [List.mem_append, List.mem_append, List.mem_map, or_assoc]
  refine or_congr Iff.rfl (or_congr ?_ ?_)
  · cases s.drain.queue with
    | nil => simp
    | cons e rest => simp [eq_comm]
  · cases offeredWord s with
    | none => simp
    | some p => simp [Prod.ext_iff, eq_comm]

set_option Elab.async false in
theorem isOpenOn_iff : isOpenOn s tile = true ↔ (s.port.banks[bankOf tile]'(bankOf tile).2).row = some (tile / 8) := beq_iff_eq

theorem hitFirst_none {cs : List QueryCandidate} : hitFirst s cs = none ↔ cs = [] := by
  unfold hitFirst
  split
  · rename_i c hc
    simp only [reduceCtorEq, false_iff]
    rintro rfl
    nomatch hc
  · exact List.head?_eq_none_iff

/-- The first of a class: its first row hit, or its first of all where none is a row hit (R113). -/
theorem hitFirst_some {cs : List QueryCandidate} (h : hitFirst s cs = some c) :
    (∃ before after, cs = before ++ c :: after ∧ isOpenOn s c.tile = true ∧ ∀ d ∈ before, isOpenOn s d.tile = false)
      ∨ ((∀ d ∈ cs, isOpenOn s d.tile = false) ∧ cs.head? = some c) := by
  unfold hitFirst at h
  split at h
  · rename_i c' hc
    cases h
    obtain ⟨hit, before, after, e, none_before⟩ := List.find?_eq_some_iff_append.mp hc
    exact .inl ⟨before, after, e, hit, fun d hd => by simpa using none_before d hd⟩
  · rename_i no_hit
    exact .inr ⟨fun d hd => by simpa using List.find?_eq_none.mp no_hit d hd, h⟩

/-- Where the class has a row hit, the first is one. -/
theorem hitFirst_isOpenOn {cs : List QueryCandidate} (h : hitFirst s cs = some c) {d : QueryCandidate} (hd : d ∈ cs)
    (hit : isOpenOn s d.tile = true) : isOpenOn s c.tile = true := by
  obtain ⟨_, _, _, open_c, _⟩ | ⟨no_hit, _⟩ := hitFirst_some h
  · exact open_c
  · exact nomatch hit.symm.trans (no_hit d hd)

theorem firstUrgent_none : firstUrgent s = none ↔ ∀ d ∈ queryCandidates s, d.urgent = false := by
  unfold firstUrgent
  dsimp only
  have empty : ((queryCandidates s).filter (fun c => c.urgent) = []) ↔ ∀ d ∈ queryCandidates s, d.urgent = false := by
    simp [List.filter_eq_nil_iff]
  rw [← empty]
  split
  · rename_i none_min
    simpa using none_min
  · rename_i d hd
    obtain ⟨mem, -⟩ := List.min?_eq_some_iff.mp hd
    obtain ⟨c, hc, rfl⟩ := List.mem_map.mp mem
    rw [hitFirst_none]
    constructor
    · intro no_earliest
      have earliest : c ∈ ((queryCandidates s).filter (fun c => c.urgent)).filter
          (fun d => framesAhead s d.due = framesAhead s c.due) := List.mem_filter.mpr ⟨hc, by simp⟩
      rw [no_earliest] at earliest
      nomatch earliest
    · intro no_urgent
      rw [no_urgent] at hc
      nomatch hc

/-- The earliest due urgent candidates (R115). -/
def earliestUrgent (s : State) (c : QueryCandidate) : List QueryCandidate :=
  (queryCandidates s).filter (fun d => d.urgent && decide (framesAhead s d.due = framesAhead s c.due))

theorem firstUrgent_some (h : firstUrgent s = some c) : hitFirst s (earliestUrgent s c) = some c
    ∧ ∀ d ∈ queryCandidates s, d.urgent = true → framesAhead s c.due ≤ framesAhead s d.due := by
  unfold firstUrgent at h
  dsimp only at h
  split at h
  · nomatch h
  · rename_i d hd
    obtain ⟨-, least⟩ := List.min?_eq_some_iff.mp hd
    have mem := mem_of_hitFirst h
    have due : framesAhead s c.due = d := by simpa using (List.mem_filter.mp mem).2
    subst due
    refine ⟨?_, fun d hd urgent => least _ (List.mem_map.mpr ⟨d, List.mem_filter.mpr ⟨hd, urgent⟩, rfl⟩)⟩
    rw [List.filter_filter] at h
    rw [earliestUrgent]
    simpa only [Bool.and_comm] using h

end Candidates

/-- Settles O49. -/
theorem firstFetchIsTheOldestRowHit : Obligations.FirstFetchIsTheOldestRowHit := by
  unfold Obligations.FirstFetchIsTheOldestRowHit
  refine fun s => ⟨queryCandidates_eq s, fun w y k => offeredWord_iff, fun w y k x hx => windowTile_eq hx y k,
    fun tile => mem_candidateTiles, fun tile => isOpenOn_iff, fun c => ⟨hitFirst_none, hitFirst_some, firstUrgent_none,
    fun h => ?_⟩⟩
  obtain ⟨first, earliest⟩ := firstUrgent_some h
  obtain ⟨mem, urgent⟩ := firstUrgent_urgent h
  refine ⟨mem, urgent, earliest, fun ⟨d, hd, hu, due, hit⟩ => ?_, ?_⟩
  · exact hitFirst_isOpenOn first (List.mem_filter.mpr ⟨hd, by simp [hu, due]⟩) hit
  · obtain ⟨before, after, e, split⟩ := hitFirst_filter_split first
    exact ⟨before, after, e, fun d hd hu due => split d hd (by simp [hu, due])⟩

end Sys2Proof.Machine
end

section
/-! SUPPORT. The acceptance of a depth query (R84 to R88): its fetches, and the three ways it ends. -/

namespace Sys2Proof.Machine

/- A proof is elaborated in a task of its own. `set_option Elab.async false in` before a theorem makes the compile wait there
for the proofs before it, so that only a few are under way at a time; the linters, which would keep every proof's syntax
tree, are off, so that the compile of the whole text stays within its memory. -/
set_option linter.all false

open Sys2Proof

/-! ### The fetches of a query (R86, R88) -/

theorem cellFraction_le {g : Int} {n : Nat} (h : outsideGrid g n = false) : cellFraction g n ≤ 256 := by
  obtain ⟨low, high⟩ := outsideGrid_false.mp h
  simp only [cellFraction, cellIndex]
  omega

/-- The fetch of a word of a row (R88). -/
def wordFetch (g : Geometry) (columns : List Nat) (y k : Nat) : Fetch :=
  { tile := tileOf g (4 * k) y, word := wordOf (4 * k) y, lanes := laneMask (fun l => columns.contains (4 * k + l)),
    state := .waiting }

theorem neededWords_ne_nil (i fx : Nat) : neededWords i fx ≠ [] := by
  unfold neededWords
  split
  · simp
  · split
    · simp
    · split <;> simp

/-- One fetch for each word that holds a needed column, in their order. -/
theorem rowFetches_neededOf (g : Geometry) (y i : Nat) {fx : Nat} (h : fx ≤ 256) :
    rowFetches g y (neededOf i fx) = (neededWords i fx).map (wordFetch g (neededOf i fx) y) := by
  have words : ((neededOf i fx).map (fun x => x / 4)).foldl (fun ws k => if ws.contains k then ws else ws ++ [k]) []
      = neededWords i fx := by
    unfold neededOf neededWords
    by_cases none_right : fx = 0
    · simp [none_right]
    · by_cases none_left : fx = 256
      · simp [none_left]
      · rw [if_pos (by omega), if_pos (by omega), if_neg none_right, if_neg none_left]
        by_cases two : i % 4 = 3
        · have next : (i + 1) / 4 = i / 4 + 1 := by omega
          simp [two, next]
        · have same : (i + 1) / 4 = i / 4 := by omega
          simp [two, same]
  rw [rowFetches, words]
  rfl

/-- The fetches of a query: the needed words of each needed row, row by row. -/
theorem queryFetches_eq (g : Geometry) (i j fy : Nat) {fx : Nat} (h : fx ≤ 256) : queryFetches g i j fx fy
    = ((neededOf j fy).flatMap (fun y => (neededWords i fx).map (fun w => (y, w)))).map
        (fun yk => wordFetch g (neededOf i fx) yk.1 yk.2) := by
  rw [queryFetches, List.map_flatMap]
  refine congrArg ((neededOf j fy).flatMap ·) (funext fun y => ?_)
  rw [rowFetches_neededOf g y i h, List.map_map]
  rfl

theorem queryFetches_ne_nil (g : Geometry) (i j fy : Nat) {fx : Nat} (h : fx ≤ 256) : queryFetches g i j fx fy ≠ [] := by
  obtain ⟨y, rows, hy⟩ := List.exists_cons_of_length_pos (neededOf_length j fy).1
  rw [queryFetches_eq g i j fy h, hy]
  simp [neededWords_ne_nil]

/-- A word's fetch names its tile and word, is WAITING, and carries the lanes of the needed columns (R4, R5, R88). -/
theorem wordFetch_spec (g : Geometry) (columns : List Nat) (y k : Nat) :
    (wordFetch g columns y k).tile = g.base + (y / 32) * (g.width / 32) + k / 8
      ∧ (wordFetch g columns y k).word = (y % 32) * 8 + k % 8 ∧ (wordFetch g columns y k).state = .waiting
      ∧ ∀ l : Fin 4, (wordFetch g columns y k).lanes.getLsbD l = true ↔ 4 * k + l ∈ columns := by
  have tile : 4 * k / 32 = k / 8 := by omega
  have word : 4 * k % 32 / 4 = k % 8 := by omega
  refine ⟨congrArg (g.base + (y / 32) * (g.width / 32) + ·) tile, congrArg ((y % 32) * 8 + ·) word, rfl, fun l => ?_⟩
  rw [wordFetch, getLsbD_laneMask, List.contains_iff_mem]

theorem queryFetches_spec (g : Geometry) (i j fy : Nat) {fx : Nat} (h : fx ≤ 256) :
    List.Forall₂ (fun (f : Fetch) (yk : Nat × Nat) =>
        f.tile = g.base + (yk.1 / 32) * (g.width / 32) + yk.2 / 8
        ∧ f.word = (yk.1 % 32) * 8 + yk.2 % 8 ∧ f.state = .waiting
        ∧ ∀ l : Fin 4, f.lanes.getLsbD l = true ↔ 4 * yk.2 + l ∈ neededOf i fx)
      (queryFetches g i j fx fy) ((neededOf j fy).flatMap (fun y => (neededWords i fx).map (fun w => (y, w)))) := by
  rw [queryFetches_eq g i j fy h, List.forall₂_map_left_iff, List.forall₂_same]
  exact fun yk _ => wordFetch_spec g _ yk.1 yk.2

/-! ### The acceptance (R84, R85, R87) -/

section Accept

variable {s : State} {n : Fin 6} {tag : Tag} {due16 : BitVec 16} {u v : Int} {k : Nat} {x : Sheet}

/-- The query is counted and takes its sequence number (R84). -/
def countedQuery (s : State) : State :=
  count cntQueriesAccepted (s.setQueries { s.queries with nextSeq := s.queries.nextSeq + 1 })

theorem countedQuery_unchanged (s : State) : Unchanged [.queries, .counters] s (countedQuery s) :=
  ((setQueries_unchanged _ s).mono (by decide)).andThen (count_unchanged _ _)

/-- The grid position of a query on a sheet (R85). -/
def gridX (s : State) (n : Fin 6) (x : Sheet) (u : Int) : Int :=
  gridPosition (s.spindles[n]'n.2).active.originX (s.spindles[n]'n.2).active.mirrorX (s.spindles[n]'n.2).active.ratio x.geom.pitch u
def gridY (s : State) (n : Fin 6) (x : Sheet) (v : Int) : Int :=
  gridPosition (s.spindles[n]'n.2).active.originY (s.spindles[n]'n.2).active.mirrorY (s.spindles[n]'n.2).active.ratio x.geom.pitch v

/-- The record of an accepted query with its fetches (R84, R85, R88). -/
def acceptedRecord (s : State) (n : Fin 6) (tag : Tag) (due16 : BitVec 16) (k : Nat) (x : Sheet) (u v : Int) : QueryRecord :=
  let r := newRecord s n tag due16 k x (gridX s n x u) (gridY s n x v)
  { r with fetches := queryFetches x.geom r.i r.j r.fx r.fy }

/-- The rows that the query needs (R86). -/
def queryRows (s : State) (n : Fin 6) (x : Sheet) (v : Int) : List Nat :=
  neededOf (cellIndex (gridY s n x v) x.geom.height) (cellFraction (gridY s n x v) x.geom.height)

theorem acceptQuery_outside
    (h : (outsideGrid (gridX s n x u) x.geom.width || outsideGrid (gridY s n x v) x.geom.height) = true) :
    acceptQuery n tag due16 u v k x s
      = answerQuery n tag .outside 0 (s.spindles[n]'n.2).correction noModifiers (countedQuery s) := if_pos h

theorem acceptQuery_ahead
    (h : (outsideGrid (gridX s n x u) x.geom.width || outsideGrid (gridY s n x v) x.geom.height) = false)
    (hf : frontierPasses x (queryRows s n x v) = false) :
    acceptQuery n tag due16 u v k x s = answerQuery n tag .heldAhead
      (min (s.spindles[n]'n.2).held (floorLimit (s.spindles[n]'n.2).active.passFloor x)) (s.spindles[n]'n.2).correction noModifiers
      (countedQuery s) :=
  (if_neg (Bool.eq_false_iff.mp h)).trans (if_pos (by rw [Bool.not_eq_true']; exact hf))

theorem acceptQuery_accepted
    (h : (outsideGrid (gridX s n x u) x.geom.width || outsideGrid (gridY s n x v) x.geom.height) = false)
    (hf : frontierPasses x (queryRows s n x v) = true) :
    acceptQuery n tag due16 u v k x s = judgeDeadline ((countedQuery s).setQueries
      { (countedQuery s).queries with records := s.queries.records ++ [acceptedRecord s n tag due16 k x u v] }) :=
  (if_neg (Bool.eq_false_iff.mp h)).trans (if_neg (by rw [Bool.not_eq_true', Bool.not_eq_false]; exact hf))

/-- The frontier test, where the sheet can be read at all (R87). -/
theorem frontierPasses_iff {rows : List Nat} (hs : x.state = .scanning ∨ x.state = .ready) :
    frontierPasses x rows = true ↔ x.state = .ready ∨ ∃ r, x.kind = .relief r ∧ ∀ y ∈ rows, y < r.written := by
  unfold frontierPasses
  obtain hs | hs := hs <;> cases hk : x.kind <;> simp [hs]

/-- A query that meets no condition of R82 is accepted (R84). -/
theorem takeQuery_accepts (bound : (s.spindles[n]'n.2).state = .bound)
    (room : s.queries.records.countP (fun r => r.spindle == n) < 4)
    (new : ∀ r ∈ s.queries.records, r.spindle = n → r.tag ≠ tag) (ahead : 0 < (due16 - s.time.frame.setWidth 16).toInt)
    (hk : (s.spindles[n]'n.2).active.sheet = some k) (hx : sheetAt s k = some x)
    (hs : x.state = .scanning ∨ x.state = .ready) :
    takeQuery n tag due16 u v s = choose (acceptQuery n tag due16 u v k x s) := by
  have unseen : ¬ (s.queries.records.filter (fun r => r.spindle == n)).any (fun r => r.tag == tag) = true := by
    simpa using new
  have none_holds : arrivalOutcome s n tag due16 = none := by
    rw [List.countP_eq_length_filter] at room
    refine (arrivalOutcome_bound bound room).trans ((if_neg unseen).trans ((if_neg (Int.not_le.2 ahead)).trans ?_))
    rw [hk, Option.bind_some, hx]
    obtain h | h := hs <;> simp only [outcomeOfSheet, h]
  simp only [takeQuery, none_holds, hk, hx]

/-- The due frame lies one to four marks ahead (R81). -/
theorem acceptedRecord_due (ahead : 0 < (due16 - s.time.frame.setWidth 16).toInt) : ∃ a : Nat, 1 ≤ a ∧ a ≤ 4
    ∧ (acceptedRecord s n tag due16 k x u v).due = s.time.frame + BitVec.ofNat 32 a
    ∧ (a : Int) = min (due16 - s.time.frame.setWidth 16).toInt 4 := by
  set d := (due16 - s.time.frame.setWidth 16).toInt with hd
  have clamped : min d 4 = ((min d 4).toNat : Int) := by omega
  refine ⟨(min d 4).toNat, by omega, by omega, ?_, clamped.symm⟩
  calc dueFrame due16 s.time.frame = s.time.frame + BitVec.ofInt 32 (min d 4) := rfl
    _ = s.time.frame + BitVec.ofInt 32 ((min d 4).toNat : Int) := by rw [← clamped]
    _ = _ := by rw [BitVec.ofInt_natCast]

theorem acceptedRecord_urgent : (acceptedRecord s n tag due16 k x u v).urgent = true
    ↔ s.time.urgencyPassed = true ∧ (acceptedRecord s n tag due16 k x u v).due = s.time.frame + 1 := by
  show (s.time.urgencyPassed && dueFrame due16 s.time.frame == s.time.frame + 1) = true ↔ _
  rw [Bool.and_eq_true, beq_iff_eq]
  rfl

end Accept

set_option Elab.async false in
theorem judgeDeadline_counters_other {k : Fin 28} (hk : cntDeadline ≠ k) (s : State) :
    (judgeDeadline s).counters[k]'k.2 = s.counters[k]'k.2 := by
  rw [judgeDeadline_counters]
  split
  · rw [getElem_set_counter, if_neg hk]
  · rfl

section Answered

variable {n : Fin 6} {tag : Tag} {o : DepthOutcome} {c : Nat} {x : Int} {s : State}

theorem held_choose_answerQuery : ((choose (answerQuery n tag o c x noModifiers s)).spindles[n]'n.2).held = c := by
  rw [(choose_unchanged _).spindles, answerQuery_spindles]
  exact congrArg Context.held (Vector.getElem_set_self _)

theorem toSend_choose_answerQuery (up : portUp s (.s n) = true) :
    (linkOf (choose (answerQuery n tag o c x noModifiers s)) (.s n)).toSend
      = (linkOf s (.s n)).toSend ++ [.depthReply tag (s.time.frame.setWidth 16) c x o noModifiers] := by
  rw [linkOf_congr _ (choose_unchanged _).links, linkOf_answerQuery_same, if_pos up]

end Answered

/-- Settles O32. -/
theorem queryThatPassesIsAccepted : Obligations.QueryThatPassesIsAccepted := by
  unfold Obligations.QueryThatPassesIsAccepted
  intro s n tag due16 u v k x hl bound room new ahead hk hx hs p gx gy inside rows readable busy
  set w := afterGoodRecord (.s n) s with hw
  have good := afterGoodRecord_unchanged (.s n) s
  have up : portUp w (.s n) = true := portUp_afterGoodRecord hl.2
  have link : (linkOf w (.s n)).toSend = (linkOf s (.s n)).toSend := by rw [hw, linkOf_afterGoodRecord]
  set b := countedQuery w with hb
  have counted : Unchanged [.queries, .counters] w b := countedQuery_unchanged w
  have taken : exec (.depthQuery n tag due16 u v) s = .next (choose (acceptQuery n tag due16 u v k x w)) :=
    (takeRecord_listening hl).trans (congrArg Host.Outcome.next
      (takeQuery_accepts (s := w) bound room new ahead hk hx hs))
  have inside_iff : inside ↔ (outsideGrid gx x.geom.width || outsideGrid gy x.geom.height) = false := by
    rw [Bool.or_eq_false_iff, outsideGrid_false, outsideGrid_false]
    tauto
  have readable_iff : readable ↔ frontierPasses x rows = true := (frontierPasses_iff hs).symm
  have chosen (a : State) := choose_unchanged a
  have chosen_busy {a : State} (port : a.port = s.port) (h : busy) : choose a = a := choose_of_busy (by rwa [port])
  have accepted_counter {j : Fin 28} (hj : cntQueriesAccepted ≠ j) : b.counters[j]'j.2 = s.counters[j]'j.2 :=
    (getElem_set_counter _ _).trans (if_neg hj)
  have accepted_count : b.counters[cntQueriesAccepted]'cntQueriesAccepted.2 = s.counters[cntQueriesAccepted]'cntQueriesAccepted.2 + 1 :=
    (getElem_set_counter _ _).trans (if_pos rfl)
  have nextSeq : b.queries.nextSeq = s.queries.nextSeq + 1 := rfl
  refine ⟨_, taken, ?_⟩
  rw [choose_nextSeq, choose_counters _ (by decide)]
  by_cases within : inside
  · have on_grid := inside_iff.mp within
    by_cases passes : readable
    · have fetched := acceptQuery_accepted (s := w) (tag := tag) (due16 := due16) (k := k) on_grid (readable_iff.mp passes)
      set r := acceptedRecord w n tag due16 k x u v with hr
      set a := b.setQueries { b.queries with records := w.queries.records ++ [r] } with ha
      rw [fetched]
      have judged := judgeDeadline_unchanged a
      have kept {j : Fin 28} (hj : cntDeadline ≠ j) : (judgeDeadline a).counters[j]'j.2 = b.counters[j]'j.2 :=
        judgeDeadline_counters_other hj a
      refine ⟨by rw [judged.queries]; exact nextSeq, by rw [kept (by decide)]; exact accepted_count,
        fun _ => repliesCounted_of_same fun j hj => ?_, fun _ no => absurd passes no, fun no => absurd within no,
        fun _ no => absurd passes no, fun _ _ => ⟨?_, ?_, judgeDeadline a, r, rfl, fun h => ?_, ?_, ?_⟩⟩
      · rw [choose_counters _ (by revert hj; decide +revert), kept (by rintro rfl; revert hj; decide)]
        exact accepted_counter (by rintro rfl; revert hj; decide)
      · rw [choose_records_length, judged.queries]
        exact List.length_append
      · exact (chosen _).spindles.trans judged.spindles
      · exact chosen_busy judged.port h
      · exact congrArg QueryTable.records judged.queries
      · have fraction : r.fx ≤ 256 := cellFraction_le (Bool.or_eq_false_iff.mp on_grid).1
        exact ⟨rfl, rfl, rfl, rfl, rfl, rfl, acceptedRecord_due (s := w) ahead, acceptedRecord_urgent (s := w), rfl, rfl, rfl,
          rfl, rfl, queryFetches_ne_nil _ _ _ _ fraction, queryFetches_spec _ _ _ _ fraction⟩
    · have held := acceptQuery_ahead (s := w) (tag := tag) (due16 := due16) (k := k) on_grid
        (Bool.eq_false_iff.mpr (mt readable_iff.mpr passes))
      rw [held]
      set c := min (w.spindles[n]'n.2).held (floorLimit (w.spindles[n]'n.2).active.passFloor x)
      have answered := answerQuery_unchanged n tag .heldAhead c (w.spindles[n]'n.2).correction noModifiers b
      have counters : (answerQuery n tag .heldAhead c (w.spindles[n]'n.2).correction noModifiers b).counters
          = b.counters.set cntHeldAhead (b.counters[cntHeldAhead]'cntHeldAhead.2 + 1) := answerQuery_counted rfl
      have other {j : Fin 28} (h₁ : cntHeldAhead ≠ j) (h₂ : cntQueriesAccepted ≠ j) (h₃ : j ∉ issueCounters) :
          (choose (answerQuery n tag .heldAhead c (w.spindles[n]'n.2).correction noModifiers b)).counters[j]'j.2 = s.counters[j]'j.2 := by
        rw [choose_counters _ h₃, counters, getElem_set_counter, if_neg h₁, accepted_counter h₂]
      refine ⟨by rw [answered.queries]; exact nextSeq, ?_, fun either => absurd within (either.resolve_right passes),
        fun _ _ => ⟨?_, ?_, ?_, ?_, ?_⟩, fun no => absurd within no, fun _ _ => ⟨fun h => ?_, held_choose_answerQuery, ?_⟩,
        fun _ yes => absurd yes passes⟩
      · rw [counters, getElem_set_counter, if_neg (by decide), accepted_count]
      · simpa using other (j := cntCut) (by decide) (by decide) (by decide)
      · simpa using other (j := cntHeldVoid) (by decide) (by decide) (by decide)
      · rw [choose_counters _ (by decide), counters, getElem_set_counter, if_pos rfl, accepted_counter (by decide)]
        rfl
      · simpa using other (j := cntHeldLate) (by decide) (by decide) (by decide)
      · simpa using other (j := cntOtherHeld) (by decide) (by decide) (by decide)
      · rw [chosen_busy answered.port h, answered.queries]
        rfl
      · rw [held_choose_answerQuery, ← link]
        exact toSend_choose_answerQuery up
  · have off_grid : (outsideGrid gx x.geom.width || outsideGrid gy x.geom.height) = true := by
      rw [← Bool.not_eq_false]
      exact mt inside_iff.mpr within
    have outside := acceptQuery_outside (s := w) (tag := tag) (due16 := due16) (k := k) off_grid
    rw [outside]
    have answered := answerQuery_unchanged n tag .outside 0 (w.spindles[n]'n.2).correction noModifiers b
    have counters : (answerQuery n tag .outside 0 (w.spindles[n]'n.2).correction noModifiers b).counters = b.counters :=
      answerQuery_uncounted rfl
    refine ⟨by rw [answered.queries]; exact nextSeq, by rw [counters]; exact accepted_count,
      fun _ => repliesCounted_of_same fun j hj => ?_, fun yes => absurd yes within, fun _ => ⟨fun h => ?_, ?_, ?_⟩,
      fun yes => absurd yes within, fun yes => absurd yes within⟩
    · rw [choose_counters _ (by revert hj; decide +revert), counters]
      exact accepted_counter (by rintro rfl; revert hj; decide)
    · rw [chosen_busy answered.port h, answered.queries]
      rfl
    · exact held_choose_answerQuery
    · rw [← link]
      exact toSend_choose_answerQuery up

end Sys2Proof.Machine
end

section
/-! SUPPORT. The events that a TICK or a TIME_SET takes first (log 2), what a TICK and a load then do, and the expiries of the
refresh interval and of the row close timers (R47, R53 to R56, R134 to R138). -/

namespace Sys2Proof.Machine

/- A proof is elaborated in a task of its own. `set_option Elab.async false in` before a theorem makes the compile wait there
for the proofs before it, so that only a few are under way at a time; the linters, which would keep every proof's syntax
tree, are off, so that the compile of the whole text stays within its memory. -/
set_option linter.all false

open Sys2Proof

theorem getElem_set_fin {α : Type} {n : Nat} (v : Vector α n) (i j : Fin n) (x : α) :
    (v.set i x)[j]'j.2 = if i = j then x else v[j]'j.2 := by
  simp [Vector.getElem_set, Fin.ext_iff]

/-! ### Banks after a choice -/

/-- A bank with its timer stopped and its mark cleared, as an access or a CLOSE leaves it (R131, R132). -/
def Touched (k k' : Bank) : Prop :=
  k'.row = k.row ∧ k'.timer = none ∧ k'.closeWanted = false

theorem choose_bank (s : State) (b : Fin 8) :
    (choose s).port.banks[b]'b.2 = s.port.banks[b]'b.2 ∨ Touched (s.port.banks[b]'b.2) ((choose s).port.banks[b]'b.2) := by
  have set_bank {v : Vector Bank 8} {a : Fin 8} {k : Bank} (h : (choose s).port.banks = v) (hv : v = s.port.banks.set a k)
      (hk : Touched (s.port.banks[a]'a.2) k) :
      (choose s).port.banks[b]'b.2 = s.port.banks[b]'b.2 ∨ Touched (s.port.banks[b]'b.2) ((choose s).port.banks[b]'b.2) := by
    rw [h, hv]
    by_cases here : a = b
    · subst here
      exact .inr (by simpa using hk)
    · exact .inl (by simp [Vector.getElem_set_ne, Fin.val_inj, here])
  obtain same | ⟨o, -, ⟨-, -, -, ⟨access, close, other⟩, -⟩, -⟩ := choiceMade_choose s
  · exact .inl (by rw [same])
  · cases hop : o.op with
    | read tile word owner => exact set_bank rfl (access tile (.inl ⟨_, _, hop⟩)) ⟨rfl, rfl, rfl⟩
    | write tile word codes => exact set_bank rfl (access tile (.inr ⟨_, _, hop⟩)) ⟨rfl, rfl, rfl⟩
    | closeRow a => exact set_bank rfl (close a hop) ⟨rfl, rfl, rfl⟩
    | openRow a row => exact .inl (by rw [other (.inl ⟨_, _, hop⟩)])
    | refresh => exact .inl (by rw [other (.inr hop)])

theorem choose_row (s : State) (b : Fin 8) : ((choose s).port.banks[b]'b.2).row = (s.port.banks[b]'b.2).row := by
  obtain e | ⟨e, -, -⟩ := choose_bank s b
  · rw [e]
  · exact e

/-- A choice starts no timer. -/
theorem choose_timer (s : State) (b : Fin 8) :
    ((choose s).port.banks[b]'b.2).timer = (s.port.banks[b]'b.2).timer ∨ ((choose s).port.banks[b]'b.2).timer = none := by
  obtain e | ⟨-, e, -⟩ := choose_bank s b
  · exact .inl (by rw [e])
  · exact .inr e

/-! ### Expiries (R134 to R137) -/

section Expiries

variable {s : State} {b : Fin 8}

theorem setBank_bank (b a : Fin 8) (k : Bank) (s : State) :
    (setBank b k s).port.banks[a]'a.2 = if b = a then k else s.port.banks[a]'a.2 := by
  by_cases here : b = a
  · subst here
    simp [setBank]
  · simp [setBank, here, Vector.getElem_set_ne, Fin.val_inj]

theorem timerStart_ne_zero (s : State) : timerStart s ≠ some 0 := by
  unfold timerStart
  split
  · nofun
  · exact fun e => absurd (Option.some.inj e) ‹_›

theorem judgeRow_bank (b a : Fin 8) (row : Nat) (s : State) : (judgeRow b row s).port.banks[a]'a.2
    = if b = a then (if rowWanted s b row then { s.port.banks[b]'b.2 with timer := timerStart s }
        else { s.port.banks[b]'b.2 with timer := none, closeWanted := true }) else s.port.banks[a]'a.2 := by
  unfold judgeRow
  split
  · exact setBank_bank _ _ _ _
  · exact setBank_bank _ _ _ _

/-- An expired bank judged has no expired timer, and every other bank keeps its own. -/
theorem judgeRow_timer (b a : Fin 8) (row : Nat) (s : State) :
    ((judgeRow b row s).port.banks[a]'a.2).timer ≠ some 0 ∨ a ≠ b ∧ ((judgeRow b row s).port.banks[a]'a.2).timer
      = (s.port.banks[a]'a.2).timer := by
  rw [judgeRow_bank]
  by_cases here : b = a
  · rw [if_pos here]
    split
    · exact .inl (timerStart_ne_zero s)
    · exact .inl nofun
  · rw [if_neg here]
    exact .inr ⟨fun e => here e.symm, rfl⟩

theorem timerExpired_iff (s : State) (b : Fin 8) : timerExpired s b = true ↔ (s.port.banks[b]'b.2).timer = some 0 := beq_iff_eq

/-- After the expiry of one bank's timer has been taken, that timer is not expired, and no other timer has expired. -/
theorem takeTimerExpiry_timer (b a : Fin 8) (s : State) (h : a = b ∨ timerExpired s a = false) :
    timerExpired (takeTimerExpiry b s) a = false := by
  have settled {u : State} (hu : (u.port.banks[a]'a.2).timer ≠ some 0 ∨ a ≠ b ∧ (u.port.banks[a]'a.2).timer = (s.port.banks[a]'a.2).timer) :
      timerExpired u a = false := by
    rw [← Bool.not_eq_true, timerExpired_iff]
    obtain hu | ⟨other, hu⟩ := hu
    · exact hu
    · rw [hu, ← timerExpired_iff, Bool.not_eq_true]
      exact h.resolve_left other
  unfold takeTimerExpiry
  dsimp only
  split
  · refine settled ?_
    rw [setBank_bank]
    by_cases here : b = a
    · rw [if_pos here]
      exact .inl nofun
    · rw [if_neg here]
      exact .inr ⟨fun e => here e.symm, rfl⟩
  · rename_i row _
    have judged := settled (judgeRow_timer b a row s)
    split
    · exact judged
    · rw [← Bool.not_eq_true, timerExpired_iff] at judged ⊢
      obtain e | e := choose_timer (judgeRow b row s) a
      · rwa [e]
      · rw [e]
        nofun

theorem takeTimerExpiry_refreshLeft (b : Fin 8) (s : State) :
    (takeTimerExpiry b s).port.refreshLeft = s.port.refreshLeft := by
  have judged (row : Nat) : (judgeRow b row s).port.refreshLeft = s.port.refreshLeft := by
    unfold judgeRow
    split <;> rfl
  unfold takeTimerExpiry
  dsimp only
  split
  · rfl
  · split
    · exact judged _
    · exact (choose_port _).2.2.trans (judged _)

theorem takeRefreshExpiry_refreshLeft (s : State) :
    (takeRefreshExpiry s).port.refreshLeft = some s.settings.refreshInterval := by
  unfold takeRefreshExpiry
  dsimp only
  rw [(choose_port _).2.2]
  split
  · rfl
  · rw [(raise_unchanged _ _).port]
    rfl

set_option Elab.async false in
theorem refreshExpired_iff (s : State) : refreshExpired s = true ↔ s.port.refreshLeft = some 0 := beq_iff_eq

end Expiries

/-! ### The events taken first (log 2) -/

section Outstanding

variable {s u : State} {c : Instr}

/-- The expiries of the row close timers, lowest bank first. -/
def takeTimers (s : State) : State := allBanks.foldl (fun s b => takeIf (timerExpired s b) (takeTimerExpiry b) s) s
def takeRefreshOn (s : State) : State := takeTimers (takeIf (refreshExpired s) takeRefreshExpiry s)
def takeUrgencyOn (s : State) : State := takeRefreshOn (takeIf s.time.urgencyDue takeUrgency s)
def takeMarkOn (s : State) : State := takeUrgencyOn (takeIf s.time.markDue takeMark s)
def takeAlarm1On (s : State) : State := takeMarkOn (takeIf s.time.alarmDue[(1 : Fin 2)] (takeAlarm 1) s)

/-- The events outstanding are taken one after another: from each stage on, the stages that follow. -/
theorem takeOutstanding_eq (s : State) :
    takeOutstanding s = takeAlarm1On (takeIf s.time.alarmDue[(0 : Fin 2)] (takeAlarm 0) s) := rfl

theorem takeIf_false {due : Bool} {act : State → State} (h : due = false) : takeIf due act s = s := by
  rw [h]
  rfl

theorem takeIf_true {due : Bool} {act : State → State} (h : due = true) : takeIf due act s = act s := by
  rw [h]
  rfl

theorem foldl_takeIf_none {l : List (Fin 8)} (h : ∀ b ∈ l, timerExpired s b = false) :
    l.foldl (fun s b => takeIf (timerExpired s b) (takeTimerExpiry b) s) s = s := by
  induction l with
  | nil => rfl
  | cons b l ih =>
    rw [List.foldl_cons, takeIf_false (h b List.mem_cons_self)]
    exact ih (fun a ha => h a (List.mem_cons_of_mem _ ha))

theorem takeTimers_none (h : ∀ b, timerExpired s b = false) : takeTimers s = s := foldl_takeIf_none (fun b _ => h b)

/-- The lowest expired bank first, then the expiries that are left. -/
theorem takeTimers_first {b : Fin 8} (h : allBanks.find? (fun b => timerExpired s b) = some b) :
    takeTimers s = takeTimers (takeTimerExpiry b s) := by
  obtain ⟨expired, pre, post, split, before⟩ := List.find?_eq_some_iff_append.mp h
  have not_before : ∀ a ∈ pre, timerExpired s a = false := fun a ha => by simpa using before a ha
  unfold takeTimers
  rw [split, List.foldl_append, List.foldl_append, List.foldl_cons, List.foldl_cons, foldl_takeIf_none not_before,
    takeIf_true expired, foldl_takeIf_none (fun a ha => takeTimerExpiry_timer b a s (.inr (not_before a ha))),
    takeIf_false (takeTimerExpiry_timer b b s (.inl rfl))]

theorem takeOutstanding_of_alarms (h0 : s.time.alarmDue[(0 : Fin 2)] = false) (h1 : s.time.alarmDue[(1 : Fin 2)] = false) :
    takeOutstanding s = takeMarkOn s := by
  rw [takeOutstanding_eq, takeIf_false h0, takeAlarm1On, takeIf_false h1]

theorem takeMarkOn_of_none (hm : s.time.markDue = false) (hu : s.time.urgencyDue = false) : takeMarkOn s = takeRefreshOn s := by
  rw [takeMarkOn, takeIf_false hm, takeUrgencyOn, takeIf_false hu]

/-- With no event outstanding nothing is taken first. -/
theorem takeOutstanding_none (h : NoneOutstanding s) : takeOutstanding s = s := by
  obtain ⟨alarms, mark, point, refresh, timers⟩ := h
  rw [takeOutstanding_of_alarms (alarms 0) (alarms 1), takeMarkOn_of_none mark point, takeRefreshOn,
    takeIf_false (by rwa [← Bool.not_eq_true, refreshExpired_iff]),
    takeTimers_none fun b => by
      rw [← Bool.not_eq_true, timerExpired_iff]
      exact timers b]

/-- The event that is taken first leaves the others to be taken as they would have been (log 2). -/
theorem takeOutstanding_next (hr : s.resetAsserted = false) (hi : s.settings.refreshInterval ≠ 0)
    (h : nextOutstanding s = some c) :
    ∃ u, exec c s = .next u ∧ takeOutstanding s = takeOutstanding u ∧ Unchanged timeParts s u := by
  unfold nextOutstanding at h
  split at h
  · rename_i due
    cases h
    refine ⟨takeAlarm 0 s, takeEvent_due hr due, ?_, (takeAlarm_unchanged s 0).mono (by decide)⟩
    rw [takeOutstanding_eq, takeIf_true due, takeOutstanding_eq (takeAlarm 0 s), takeIf_false]
    rw [takeAlarm_time]
    exact getElem_set_fin ..
  · rename_i no_alarm0
    have no_alarm0 : s.time.alarmDue[(0 : Fin 2)] = false := Bool.eq_false_iff.mpr no_alarm0
    split at h
    · rename_i due
      cases h
      refine ⟨takeAlarm 1 s, takeEvent_due hr due, ?_, (takeAlarm_unchanged s 1).mono (by decide)⟩
      rw [takeOutstanding_eq, takeIf_false no_alarm0, takeAlarm1On, takeIf_true due, takeOutstanding_of_alarms]
      · rw [takeAlarm_time]
        exact (getElem_set_fin ..).trans no_alarm0
      · rw [takeAlarm_time]
        exact getElem_set_fin ..
    · rename_i no_alarm1
      have no_alarm1 : s.time.alarmDue[(1 : Fin 2)] = false := Bool.eq_false_iff.mpr no_alarm1
      rw [takeOutstanding_of_alarms no_alarm0 no_alarm1]
      split at h
      · rename_i due
        cases h
        refine ⟨takeMark s, takeEvent_due hr due, ?_, takeMark_unchanged s⟩
        rw [takeOutstanding_of_alarms (by rw [takeMark_time]; exact no_alarm0) (by rw [takeMark_time]; exact no_alarm1),
          takeMarkOn, takeIf_true due, takeMarkOn, takeIf_false (by rw [takeMark_time]; rfl)]
      · rename_i no_mark
        have no_mark : s.time.markDue = false := Bool.eq_false_iff.mpr no_mark
        split at h
        · rename_i due
          cases h
          refine ⟨takeUrgency s, takeEvent_due hr due, ?_, (takeUrgency_unchanged s).mono (by decide)⟩
          rw [takeOutstanding_of_alarms (by rw [takeUrgency_time]; exact no_alarm0)
            (by rw [takeUrgency_time]; exact no_alarm1), takeMarkOn, takeIf_false no_mark, takeUrgencyOn, takeIf_true due,
            takeMarkOn_of_none (by rw [takeUrgency_time]; exact no_mark) (by rw [takeUrgency_time])]
        · rename_i no_point
          have no_point : s.time.urgencyDue = false := Bool.eq_false_iff.mpr no_point
          have later {u : State} (time : u.time = s.time) : takeOutstanding u = takeRefreshOn u := by
            rw [takeOutstanding_of_alarms (by rw [time]; exact no_alarm0) (by rw [time]; exact no_alarm1),
              takeMarkOn_of_none (by rw [time]; exact no_mark) (by rw [time]; exact no_point)]
          rw [takeMarkOn_of_none no_mark no_point, takeRefreshOn]
          split at h
          · rename_i due
            cases h
            have expired : refreshExpired s = true := (refreshExpired_iff s).mpr due
            refine ⟨takeRefreshExpiry s, takeEvent_due hr expired, ?_, (takeRefreshExpiry_unchanged s).mono (by decide)⟩
            rw [later (takeRefreshExpiry_unchanged s).time, takeIf_true expired, takeRefreshOn, takeIf_false]
            rw [← Bool.not_eq_true, refreshExpired_iff, takeRefreshExpiry_refreshLeft]
            exact fun e => hi (Option.some.inj e)
          · rename_i no_refresh
            have no_refresh : refreshExpired s = false := by rwa [← Bool.not_eq_true, refreshExpired_iff]
            obtain ⟨b, found, rfl⟩ := Option.map_eq_some_iff.mp h
            have expired : timerExpired s b = true := List.find?_some found
            refine ⟨takeTimerExpiry b s, takeEvent_due hr expired, ?_, (takeTimerExpiry_unchanged s b).mono (by decide)⟩
            rw [later (takeTimerExpiry_unchanged s b).time, takeIf_false no_refresh, takeRefreshOn, takeIf_false]
            · exact takeTimers_first found
            · rw [← Bool.not_eq_true, refreshExpired_iff, takeTimerExpiry_refreshLeft, ← refreshExpired_iff,
                no_refresh]
              nofun

end Outstanding

/-! ### The time base at a TICK and at a load -/

set_option Elab.async false in
theorem countDown_eq (k : Option Nat) : countDown k = k.map (fun k => k - 1) := by
  cases k <;> rfl

theorem alarmMatches_iff (u : AlarmUnit) (t : MachineTime) :
    alarmMatches u t = true ↔ (t ^^^ u.compare) &&& ~~~u.mask = 0 := decide_eq_true_iff

theorem getElem_map_alarms {α : Type} (f : AlarmUnit → α) (v : Vector AlarmUnit 2) (a : Fin 2) : (v.map f)[a]'a.2 = f (v[a]'a.2) :=
  Vector.getElem_map ..

/-- Settles O36. -/
theorem tickCountsAndRaisesWhatFallsOnIt : Obligations.TickCountsAndRaisesWhatFallsOnIt := by
  unfold Obligations.TickCountsAndRaisesWhatFallsOnIt
  refine ⟨fun s hr quiet => ?_, fun s c hr hi h => ?_⟩
  · have taken : takeTick s = (s.setTime (tickTime s.time)).setPort (tickPort s.port) := by
      rw [takeTick, takeOutstanding_none quiet]
    refine ⟨_, (whileRunning_running _ hr).trans (congrArg Host.Outcome.next taken), rfl, fun more => ?_, fun last => ?_, rfl,
      rfl, rfl, rfl, fun a => ?_, fun b => ?_, countDown_eq _, rfl, rfl, rfl,
      ((setTime_unchanged _ s).mono (by simp)).andThen (setPort_unchanged _ _)⟩
    · have not_last : ¬ s.time.period ≤ s.time.ticks + 1 := Nat.not_le.2 more
      simp [tickTime, not_last]
    · simp [tickTime, last]
    · refine ⟨?_, ?_, ?_, ?_, ?_⟩
      all_goals simp [tickTime, judgeAlarm, firesAtTick, alarmMatches, and_assoc]
    · simp [tickPort, countDown_eq]
  · obtain ⟨u, taken, same, unchanged⟩ := takeOutstanding_next hr hi h
    refine ⟨u, taken, ?_⟩
    show whileRunning s _ = whileRunning u _
    rw [whileRunning_running _ hr, whileRunning_running _ (unchanged.resetInput.trans hr), takeTick, takeTick, same]

section Load

variable {s : State} {v : MachineTime}

theorem takeIf_fireAlarm_quiet (due : Bool) (a : Fin 2) (s : State) :
    Unchanged [.spindles, .notices] s (takeIf due (fireAlarm a) s) := takeIf_unchanged due (fireAlarm_quiet a) s

theorem takeIf_fireAlarm_notices (due : Bool) (a : Fin 2) (s : State) : (takeIf due (fireAlarm a) s).notices
    = { s.notices with pending := s.notices.pending ||| (if due then srcAlarm a else 0) } := by
  cases due
  · rw [takeIf_false rfl, if_neg Bool.false_ne_true]
    exact congrArg (fun p => { s.notices with pending := p }) BitVec.or_zero.symm
  · rw [takeIf_true rfl, fireAlarm_notices, if_pos rfl]

theorem takeIf_fireAlarm_spindles (due : Bool) (a : Fin 2) (s : State) (n : Fin 6) :
    (takeIf due (fireAlarm a) s).spindles[n]'n.2 = if (s.spindles[n]'n.2).release = afterAlarm a ∧ due = true
      then { s.spindles[n]'n.2 with alarmFired := true } else s.spindles[n]'n.2 := by
  cases due
  · rw [takeIf_false rfl, if_neg fun h => nomatch h.2]
  · simp only [takeIf_true, fireAlarm_spindles, noteFiring, and_true]

/-- Whether a unit fires at a load (R56). -/
theorem firesAtLoad_eq (v : MachineTime) (u : AlarmUnit) :
    firesAtLoad v u = (u.enabled && (v ^^^ u.compare) &&& ~~~u.mask == 0) := by
  rw [firesAtLoad, alarmMatches, Bool.beq_eq_decide_eq]

theorem takeLoad_notices (v : MachineTime) (s : State) : (takeLoad v s).notices = { s.notices with pending :=
    s.notices.pending ||| (if firesAtLoad v s.time.alarms[(0 : Fin 2)] then 32 else 0)
      ||| (if firesAtLoad v s.time.alarms[(1 : Fin 2)] then 64 else 0) } := by
  unfold takeLoad
  dsimp only
  rw [takeIf_fireAlarm_notices, takeIf_fireAlarm_notices, srcAlarm_eq, srcAlarm_eq, getElem_map_alarms, getElem_map_alarms]
  rfl

theorem takeLoad_spindles (v : MachineTime) (s : State) (n : Fin 6) : (takeLoad v s).spindles[n]'n.2
    = if ((s.spindles[n]'n.2).release = .afterAlarm0 ∧ firesAtLoad v s.time.alarms[(0 : Fin 2)] = true)
        ∨ ((s.spindles[n]'n.2).release = .afterAlarm1 ∧ firesAtLoad v s.time.alarms[(1 : Fin 2)] = true)
      then { s.spindles[n]'n.2 with alarmFired := true } else s.spindles[n]'n.2 := by
  unfold takeLoad
  dsimp only
  rw [takeIf_fireAlarm_spindles, takeIf_fireAlarm_spindles, getElem_map_alarms, getElem_map_alarms]
  have after0 : afterAlarm 0 = .afterAlarm0 := rfl
  have after1 : afterAlarm 1 = .afterAlarm1 := rfl
  rw [after0, after1, State.setTime_spindles]
  generalize s.spindles[n]'n.2 = k, firesAtLoad v s.time.alarms[(0 : Fin 2)] = f₀, firesAtLoad v s.time.alarms[(1 : Fin 2)] = f₁
  by_cases h0 : k.release = .afterAlarm0 ∧ f₀ = true
  · simp [h0]
  · rw [if_neg h0]
    simp only [h0, false_or]

/-- The load makes no record: its firings set their sources alone (R56, R57). -/
theorem takeLoad_quiet (v : MachineTime) (s : State) : Unchanged [.time, .notices, .spindles] s (takeLoad v s) :=
  (((setTime_unchanged _ s).mono (by decide)).andThen (takeIf_fireAlarm_quiet _ _ _)).andThen (takeIf_fireAlarm_quiet _ _ _)

end Load

/-- Settles O41. -/
theorem timeSetLoadsMachineTime : Obligations.TimeSetLoadsMachineTime := by
  unfold Obligations.TimeSetLoadsMachineTime
  refine ⟨fun s tag v rest hq quiet => ?_, fun s tag v rest c hq hi h => ?_⟩
  · intro fires
    set u := s.setCellQueue rest with hu
    have none_first : takeOutstanding u = u := takeOutstanding_none quiet
    have taken : takeTimeSet ⟨tag, .timeSet v⟩ v u = answerRequest ⟨tag, .timeSet v⟩ .done (takeLoad v u) := by
      rw [takeTimeSet, none_first]
    have answered := answerRequest_unchanged ⟨tag, .timeSet v⟩ .done (takeLoad v u)
    have loaded := takeLoad_quiet v u
    have fires_eq (a : Fin 2) : firesAtLoad v (s.time.alarms[a]'a.2) = fires a := firesAtLoad_eq v _
    refine ⟨_, (takeRequest_front hq).trans (congrArg Host.Outcome.next taken), ?_⟩
    rw [answered.time, answered.notices, answered.spindles, takeLoad_time]
    refine ⟨rfl, rfl, rfl, rfl, rfl, rfl, beq_iff_eq, rfl, fun a => ?_, ?_, fun n => ?_,
      answered_answerRequest _ loaded loaded.links loaded.cellQueue⟩
    · have judged : (loadTime v u.time).alarms[a]'a.2 = judgeAlarm v (s.time.alarms[a]'a.2) := getElem_map_alarms _ _ a
      rw [judged]
      exact ⟨rfl, rfl, rfl, alarmMatches_iff _ _, quiet.1 a⟩
    · rw [takeLoad_notices, ← fires_eq, ← fires_eq]
      rfl
    · rw [takeLoad_spindles, ← fires_eq, ← fires_eq]
      rfl
  · obtain ⟨u, taken, same, unchanged⟩ := takeOutstanding_next (s := s.setCellQueue rest) hq.1 hi h
    refine ⟨u, taken, ?_⟩
    have queue : u.cellQueue = rest := unchanged.cellQueue
    have held : AtFront ⟨tag, .timeSet v⟩ rest (u.setCellQueue (⟨tag, .timeSet v⟩ :: rest)) :=
      ⟨unchanged.resetInput.trans hq.1, rfl⟩
    have back : (u.setCellQueue (⟨tag, .timeSet v⟩ :: rest)).setCellQueue rest = u := by
      rw [← queue]
      rfl
    refine (takeRequest_front hq).trans ((congrArg Host.Outcome.next ?_).trans (takeRequest_front held).symm)
    rw [back, takeTimeSet, takeTimeSet, same]

/-! ### The expiries (R135 to R138) -/

section Urgent

variable {src : SourceSet}

/-- An urgent source on Port C: its NOTICE goes out at once where it was not pending and is enabled (R177). -/
theorem raise_urgent_linkOf (h : src &&& urgentSources ≠ 0) (s : State) : linkOf (raise src s) .c
    = { linkOf s .c with toSend := (linkOf s .c).toSend
          ++ (if portUp s .c = true ∧ s.notices.pending &&& src = 0 ∧ s.settings.noticeEnables &&& src ≠ 0
              then [.notice ((s.notices.pending ||| src) &&& s.settings.noticeEnables) s.time.frame (modeOf s)] else []) } := by
  have queue := raise_toSend src s
  have rest : linkOf (raise src s) .c = { linkOf s .c with toSend := (linkOf (raise src s) .c).toSend } := by
    unfold raise
    dsimp only
    split
    · exact (linkOf_send_same _).trans (by rw [makeNotice, linkOf_send_same]; rfl)
    · rfl
  rw [rest, queue]
  have urgent : (urgentSources &&& src ≠ 0) = True := eq_true (by rwa [BitVec.and_comm])
  simp only [BitVec.and_comm src, urgent, true_and]

end Urgent

theorem rowWanted_iff (s : State) (b : Fin 8) (row : Nat) :
    rowWanted s b row = true ↔ ∃ tile ∈ candidateTiles s, bankOf tile = b ∧ tile / 8 = row := by
  simp [rowWanted, bankRowOf]

theorem takeRefreshExpiry_owed {s : State} (h : s.port.owed < 8) : takeRefreshExpiry s = choose (s.setPort
    { s.port with owed := s.port.owed + 1, refreshLeft := some s.settings.refreshInterval }) :=
  congrArg choose (if_pos h)

/-- An overrun: counted, with MEMORY_FAULT set (R138). -/
def overrun (s : State) : State := raise srcMemoryFault (count cntRefreshOverruns (startInterval s))

set_option Elab.async false in
theorem takeRefreshExpiry_overrun {s : State} (h : 8 ≤ s.port.owed) : takeRefreshExpiry s = choose (overrun s) :=
  congrArg choose (if_neg (Nat.not_lt.2 h))

theorem takeTimerExpiry_wanted {s : State} {b : Fin 8} {row : Nat} (hr : (s.port.banks[b]'b.2).row = some row)
    (h : rowWanted s b row = true) : takeTimerExpiry b s = startTimer b s := by
  simp only [takeTimerExpiry, hr, h, if_true, judgeRow]

theorem takeTimerExpiry_unwanted {s : State} {b : Fin 8} {row : Nat} (hr : (s.port.banks[b]'b.2).row = some row)
    (h : rowWanted s b row = false) :
    takeTimerExpiry b s = choose (setBank b { s.port.banks[b]'b.2 with timer := none, closeWanted := true } s) := by
  simp only [takeTimerExpiry, hr, h, Bool.false_eq_true, if_false, judgeRow]

/-- Settles O54. -/
theorem refreshIntervalAndRowTimersExpire : Obligations.RefreshIntervalAndRowTimersExpire := by
  unfold Obligations.RefreshIntervalAndRowTimersExpire
  refine fun s hr => ⟨fun expired => ⟨takeRefreshExpiry s, takeEvent_due hr ((refreshExpired_iff s).mpr expired),
    takeRefreshExpiry_refreshLeft s, fun room => ?_, fun full => ?_⟩, fun running => takeEvent_not_due hr ?_,
    fun b row expired hrow => ?_, fun b running => takeEvent_not_due hr ?_⟩
  · rw [takeRefreshExpiry_owed room]
    exact ⟨(choose_port _).2.1, rfl, ((setPort_unchanged _ s).mono (by simp)).andThen (choose_unchanged _)⟩
  · rw [takeRefreshExpiry_overrun full]
    have chosen := choose_unchanged (overrun s)
    have raised := raise_unchanged srcMemoryFault (count cntRefreshOverruns (startInterval s))
    have notices : (overrun s).notices = { s.notices with pending := s.notices.pending ||| srcMemoryFault } :=
      raise_notices _ _
    have counters : (overrun s).counters = s.counters.set cntRefreshOverruns (s.counters[cntRefreshOverruns]'cntRefreshOverruns.2 + 1) :=
      raised.counters
    have before : Unchanged [.port, .counters, .notices, .links] s (overrun s) :=
      (((setPort_unchanged _ s).mono (by simp)).andThen (count_unchanged _ _)).andThen raised
    have owed : (overrun s).port.owed = s.port.owed := by
      rw [overrun, raised.port]
      rfl
    refine ⟨(choose_port _).2.1.trans owed, ?_, chosen.notices.trans notices, ?_, ?_,
      fun p hp => ?_, ⟨overrun s, rfl, raised.port, counters, before⟩, (before.mono (by simp)).andThen chosen⟩
    · rw [chosen.notices, notices, BitVec.getLsbD_or]
      exact Bool.or_eq_true_iff.mpr (.inr (by decide))
    · rw [choose_counters _ (by decide), counters, getElem_set_counter, if_pos rfl]
    · rw [linkOf_congr _ chosen.links]
      exact raise_urgent_linkOf (by decide) _
    · rw [linkOf_congr _ chosen.links]
      exact raise_linkOf_other _ _ hp
  · rwa [← Bool.not_eq_true, refreshExpired_iff]
  · intro wanted
    refine ⟨takeTimerExpiry b s, takeEvent_due hr ((timerExpired_iff s b).mpr expired), fun yes => ?_, fun no => ?_,
      fun no busy => ?_, ?_, takeTimerExpiry_unchanged s b⟩
    · exact takeTimerExpiry_wanted hrow ((rowWanted_iff s b row).mpr yes)
    · exact takeTimerExpiry_unwanted hrow (Bool.eq_false_iff.mpr (mt (rowWanted_iff s b row).mp no))
    · rw [takeTimerExpiry_unwanted hrow (Bool.eq_false_iff.mpr (mt (rowWanted_iff s b row).mp no))]
      exact choose_of_busy busy
    · cases h : rowWanted s b row with
      | true =>
        rw [takeTimerExpiry_wanted hrow h, startTimer, setBank_bank, if_pos rfl]
        exact hrow
      | false =>
        rw [takeTimerExpiry_unwanted hrow h, choose_row, setBank_bank, if_pos rfl]
        exact hrow
  · rwa [← Bool.not_eq_true, timerExpired_iff]

end Sys2Proof.Machine
end

section
/-! SUPPORT. The end of a completion (R130 to R136): the bank settled, the banks judged, the sheet retired and the choice; then
start-up, OPEN, CLOSE and REFRESH (R129, R131, R133). -/

namespace Sys2Proof.Machine

/- A proof is elaborated in a task of its own. `set_option Elab.async false in` before a theorem makes the compile wait there
for the proofs before it, so that only a few are under way at a time; the linters, which would keep every proof's syntax
tree, are off, so that the compile of the whole text stays within its memory. -/
set_option linter.all false

open Sys2Proof

/-! ### Banks judged at the end of a completion (R135, R136) -/

section Judged

variable {s t u : State} {a b : Fin 8} {k : Bank}

/-- What candidates name does not depend on the port. -/
theorem candidateTiles_congr (h : Unchanged [.port] s t) : candidateTiles t = candidateTiles s := by
  have tiles (w : WindowRead) (y k : Nat) : windowTile t w y k = windowTile s w y k := by
    simp only [windowTile, geometryOf, sheetAt, h.sheets]
  have offered : offeredWord t = offeredWord s := by simp only [offeredWord, h.window]
  simp only [candidateTiles, queryCandidates, h.queries, h.drain, offered, tiles]

theorem rowWanted_congr (h : Unchanged [.port] s t) (b : Fin 8) (row : Nat) : rowWanted t b row = rowWanted s b row := by
  rw [rowWanted, rowWanted, candidateTiles_congr h]

theorem timerStart_congr (h : t.settings = s.settings) : timerStart t = timerStart s := by rw [timerStart, timerStart, h]

/-- A bank that is OPEN on a row and unmarked with no timer running, which the end of a completion judges (log 15). -/
def Idles (k : Bank) (row : Nat) : Prop := k.row = some row ∧ k.timer = none ∧ k.closeWanted = false

theorem judgeBank_of_idles {row : Nat} (h : Idles (s.port.banks[b]'b.2) row) : judgeBank b s = judgeRow b row s := by
  obtain ⟨hr, ht, hm⟩ := h
  simp only [judgeBank, hr, ht, hm]

theorem judgeBank_of_not_idles (h : ∀ row, ¬ Idles (s.port.banks[b]'b.2) row) : judgeBank b s = s := by
  unfold judgeBank
  dsimp only
  split
  · rename_i row hr ht hm
    exact absurd ⟨hr, ht, hm⟩ (h row)
  · rfl

/-- A bank before its judgement and after it, at a state whose candidates are those of `s`. -/
def Judged (s : State) (b : Fin 8) (k k' : Bank) : Prop :=
  (∀ row, Idles k row → k' = if rowWanted s b row then { k with timer := timerStart s }
    else { k with timer := none, closeWanted := true })
  ∧ ((∀ row, ¬ Idles k row) → k' = k)

theorem judged_congr {k' : Bank} (h : Unchanged [.port] s t) : Judged t b k k' ↔ Judged s b k k' := by
  unfold Judged
  simp only [rowWanted_congr h, timerStart_congr h.settings]

theorem judgeBank_here (b : Fin 8) (s : State) : Judged s b (s.port.banks[b]'b.2) ((judgeBank b s).port.banks[b]) := by
  refine ⟨fun row idle => ?_, fun not_idle => by rw [judgeBank_of_not_idles not_idle]⟩
  rw [judgeBank_of_idles idle, judgeRow_bank, if_pos rfl]

theorem judgeBank_other (h : b ≠ a) (s : State) : (judgeBank b s).port.banks[a] = s.port.banks[a]'a.2 := by
  by_cases idle : ∃ row, Idles (s.port.banks[b]'b.2) row
  · obtain ⟨row, idle⟩ := idle
    rw [judgeBank_of_idles idle, judgeRow_bank, if_neg h]
  · rw [judgeBank_of_not_idles (not_exists.mp idle)]

theorem foldl_judgeBank_other {l : List (Fin 8)} (h : a ∉ l) (s : State) :
    (l.foldl (fun s b => judgeBank b s) s).port.banks[a] = s.port.banks[a]'a.2 := by
  induction l generalizing s with
  | nil => rfl
  | cons b l ih =>
    have not_here : b ≠ a := fun e => h (e ▸ List.mem_cons_self)
    rw [List.foldl_cons, ih (fun later => h (List.mem_cons_of_mem _ later)), judgeBank_other not_here]

theorem foldl_judgeBank_here {l : List (Fin 8)} (nodup : l.Nodup) (h : a ∈ l) (s : State) :
    Judged s a (s.port.banks[a]'a.2) ((l.foldl (fun s b => judgeBank b s) s).port.banks[a]) := by
  induction l generalizing s with
  | nil => nomatch h
  | cons b l ih =>
    obtain ⟨not_mem, nodup⟩ := List.nodup_cons.mp nodup
    rw [List.foldl_cons]
    by_cases here : b = a
    · subst here
      rw [foldl_judgeBank_other not_mem]
      exact judgeBank_here b s
    · have later := ih nodup ((List.mem_cons.mp h).resolve_left fun e => here e.symm) (judgeBank b s)
      rwa [judgeBank_other here, judged_congr (judgeBank_unchanged b s)] at later

set_option Elab.async false in
theorem mem_allBanks (b : Fin 8) : b ∈ allBanks := by
  rw [allBanks_eq]
  exact List.mem_finRange b

theorem judged_judgeBanks (s : State) (b : Fin 8) : Judged s b (s.port.banks[b]'b.2) ((judgeBanks s).port.banks[b]) := by
  unfold judgeBanks
  exact foldl_judgeBank_here (allBanks_eq ▸ List.nodup_finRange 8) (mem_allBanks b) s

theorem Judged.row {k' : Bank} (h : Judged s b k k') : k'.row = k.row := by
  by_cases idle : ∃ row, Idles k row
  · obtain ⟨row, idle⟩ := idle
    rw [h.1 row idle]
    split <;> rfl
  · rw [h.2 (not_exists.mp idle)]

/-- The banks after the judgement are the banks before, each judged. -/
theorem bankJudged_judgeBanks (s : State) (b : Fin 8) : BankJudged (judgeBanks s) b (s.port.banks[b]'b.2) := by
  have port := judgeBanks_unchanged s
  have here := judged_judgeBanks s b
  refine ⟨fun hrow htimer hmark => ?_, fun h => here.2 fun row ⟨hr, ht, hm⟩ => ?_⟩
  · obtain ⟨row, hrow⟩ := Option.ne_none_iff_exists'.mp hrow
    have named : (∃ tile ∈ candidateTiles (judgeBanks s), bankOf tile = b ∧ (s.port.banks[b]'b.2).row = some (tile / 8))
        ↔ rowWanted s b row = true := by
      rw [rowWanted_iff, candidateTiles_congr port, hrow]
      simp only [Option.some.injEq, eq_comm]
    rw [named, here.1 row ⟨hrow, htimer, hmark⟩, port.settings]
    refine ⟨fun h => if_pos h, fun h => (if_neg h).trans ?_⟩
    rw [← htimer]
  · obtain h | h | h := h
    · rw [hr] at h
      nomatch h
    · exact h ht
    · rw [hm] at h
      nomatch h

/-- The judgement leaves the port but its banks. -/
def SamePort (s t : State) : Prop :=
  t.port.state = s.port.state ∧ t.port.inFlight = s.port.inFlight ∧ t.port.owed = s.port.owed
    ∧ t.port.refreshLeft = s.port.refreshLeft

theorem SamePort.trans (h₁ : SamePort s t) (h₂ : SamePort t u) : SamePort s u :=
  ⟨h₂.1.trans h₁.1, h₂.2.1.trans h₁.2.1, h₂.2.2.1.trans h₁.2.2.1, h₂.2.2.2.trans h₁.2.2.2⟩

theorem samePort_setBank (b : Fin 8) (k : Bank) (s : State) : SamePort s (setBank b k s) := ⟨rfl, rfl, rfl, rfl⟩

theorem samePort_judgeBank (b : Fin 8) (s : State) : SamePort s (judgeBank b s) := by
  unfold judgeBank judgeRow
  dsimp only
  split
  · split
    · exact samePort_setBank ..
    · exact samePort_setBank ..
  · exact ⟨rfl, rfl, rfl, rfl⟩

theorem samePort_foldl_judgeBank (l : List (Fin 8)) (s : State) :
    SamePort s (l.foldl (fun s b => judgeBank b s) s) := by
  induction l generalizing s with
  | nil => exact ⟨rfl, rfl, rfl, rfl⟩
  | cons b l ih => exact (samePort_judgeBank b s).trans (ih _)

theorem samePort_judgeBanks (s : State) : SamePort s (judgeBanks s) := samePort_foldl_judgeBank _ s

end Judged

/-! ### The end of a completion (R18, R105, R130) -/

section Completion

variable {s u : State} {o : InFlight} {b : Fin 8}

/-- The state that the choice at the end of a completion is made from. -/
def completed (o : InFlight) (s : State) : State := judgeBanks (retireAfter o s)

set_option Elab.async false in
theorem afterCompletion_eq (o : InFlight) (s : State) : afterCompletion o s = choose (completed o s) := rfl

theorem completed_unchanged (o : InFlight) (s : State) : Unchanged [.sheets, .links, .port] s (completed o s) :=
  ((retireAfter_unchanged o s).mono (by simp)).andThen (judgeBanks_unchanged _)

theorem samePort_completed (o : InFlight) (s : State) : SamePort s (completed o s) := by
  have retired := (retireAfter_unchanged o s).port
  obtain ⟨state, flying, owed, left⟩ := samePort_judgeBanks (retireAfter o s)
  unfold completed
  rw [retired] at state flying owed left
  exact ⟨state, flying, owed, left⟩

theorem bankJudged_completed (o : InFlight) (s : State) (b : Fin 8) : BankJudged (completed o s) b (s.port.banks[b]'b.2) := by
  have judged := bankJudged_judgeBanks (retireAfter o s) b
  rwa [(retireAfter_unchanged o s).port] at judged

theorem completed_row (o : InFlight) (s : State) (b : Fin 8) :
    ((completed o s).port.banks[b]).row = (s.port.banks[b]'b.2).row := by
  rw [completed, (judged_judgeBanks _ b).row, (retireAfter_unchanged o s).port]

theorem retireAfter_none (h : o.sheet = none) (s : State) : retireAfter o s = s := by
  unfold retireAfter
  rw [h]

theorem completed_of_none (h : o.sheet = none) (s : State) : Unchanged [.port] s (completed o s) := by
  rw [completed, retireAfter_none h]
  exact judgeBanks_unchanged s

/-- A completion ends in the choice made from `completed`, with the port free and its state and interval as they were. -/
theorem chosenFrom_completed {v : State} (idle : v.port.inFlight = none) (state : v.port.state = s.port.state)
    (left : v.port.refreshLeft = s.port.refreshLeft) : ChosenFrom s (completed o v) (afterCompletion o v) := by
  obtain ⟨hs, hi, -, hl⟩ := samePort_completed o v
  exact ⟨rfl, hi.trans idle, hs.trans state, hl.trans left, choose_unchanged _⟩

/-- The bank of a completed access (R132, R144). -/
theorem settleBank_bank (o : InFlight) (b a : Fin 8) (s : State) : (settleBank o b s).port.banks[a]
    = if b = a then restartedBank s o.afterReset (s.port.banks[b]'b.2) else s.port.banks[a]'a.2 := by
  unfold settleBank restartedBank
  split
  · exact setBank_bank _ _ _ _
  · exact setBank_bank _ _ _ _

theorem samePort_settleBank (o : InFlight) (b : Fin 8) (s : State) : SamePort s (settleBank o b s) := by
  unfold settleBank
  split
  · exact samePort_setBank ..
  · exact samePort_setBank ..

/-- With nothing wanted a choice issues nothing (R108, R112). -/
theorem choose_of_nothingWanted (h : NothingWanted s) : choose s = s := by
  obtain ⟨records, queue, window, owed, refreshing, unmarked⟩ := h
  have candidates : queryCandidates s = [] := by simp [queryCandidates, records]
  have offered : offeredWord s = none := by simp [offeredWord, window]
  have none_first : firstQuery s = none := hitFirst_none.mpr candidates
  have none_urgent : urgentChoice s = none := by
    have : firstUrgent s = none := firstUrgent_none.mpr (by simp [candidates])
    simp [urgentChoice, this]
  unfold choose
  split
  · rw [chooseStep_unforced refreshing (by omega) none_urgent (promotedWord_none (.inl offered)),
      chooseUnforced_of_nothing (towardByBaseMode_none none_first offered queue) owed (idleCloseBank_none unmarked)]
  · rfl

end Completion

/-! ### Completions of an operation in flight (R130) -/

section Completing

variable {s : State} {k : InFlight → Option Result} {o : InFlight}

theorem completing_of {r : Result} (hr : s.resetAsserted = false) (h : s.port.inFlight = some o) (hk : k o = some r) :
    completing s k = r := by
  simp only [completing, whileRunning_running _ hr, h, hk, Option.getD_some]

/-- A completion of what is not in flight stops (log 1). -/
theorem completing_stops (hr : s.resetAsserted = false) (h : ∀ o, s.port.inFlight = some o → k o = none) :
    completing s k = .fault .operationNotInFlight := by
  unfold completing
  rw [whileRunning_running _ hr]
  split
  · rfl
  · rename_i o ho
    rw [h o ho]
    rfl

end Completing

/-- The end of a completion of an operation for no sheet, from the state `p` with the port free. -/
structure EndsAt (s p : State) (o : InFlight) : Prop where
  unchanged : Unchanged [.port, .sched, .queries, .window, .counters] s (afterCompletion o p)
  chosen : ChosenFrom s (completed o p) (afterCompletion o p)
  before : Unchanged [.port] s (completed o p)
  owed : (completed o p).port.owed = p.port.owed
  banks : ∀ b : Fin 8, BankJudged (completed o p) b (p.port.banks[b]'b.2)
  rows : ∀ b : Fin 8, ((afterCompletion o p).port.banks[b]).row = (p.port.banks[b]'b.2).row

theorem endsAt {s p : State} {o : InFlight} (hs : o.sheet = none) (hp : Unchanged [.port] s p) (idle : p.port.inFlight = none)
    (state : p.port.state = s.port.state) (left : p.port.refreshLeft = s.port.refreshLeft) : EndsAt s p o := by
  have before : Unchanged [.port] s (completed o p) := hp.trans (completed_of_none hs p)
  refine ⟨(before.mono (by simp)).andThen (choose_unchanged _), chosenFrom_completed idle state left, before,
    (samePort_completed o p).2.2.1, bankJudged_completed o p, fun b => ?_⟩
  rw [afterCompletion_eq, choose_row, completed_row]

set_option Elab.async false in
theorem EndsAt.bank {s p : State} {o : InFlight} {b : Fin 8} {k : Bank} (h : EndsAt s p o) (hk : p.port.banks[b]'b.2 = k) :
    BankJudged (completed o p) b k := hk ▸ h.banks b

/-- A bank with its timer running is not judged. -/
theorem BankJudged.keeps {u : State} {b : Fin 8} {k : Bank} (h : BankJudged u b k)
    (hk : k.row = none ∨ k.timer ≠ none ∨ k.closeWanted = true) : u.port.banks[b]'b.2 = k := h.2 hk

section BankOperations

variable {s : State} {b : Fin 8} {row : Nat} {d a : Bool}

/-- An OPEN's completion (R131, R144). -/
theorem openComplete_ends (hr : s.resetAsserted = false) (flying : s.port.inFlight = some ⟨.openRow b row, none, d, a⟩) :
    ∃ p, exec .openComplete s = .next (afterCompletion ⟨.openRow b row, none, d, a⟩ p)
      ∧ EndsAt s p ⟨.openRow b row, none, d, a⟩ ∧ p.port.owed = s.port.owed
      ∧ p.port.banks[b]'b.2 = restartedBank s a ⟨some row, none, false, false⟩
      ∧ ∀ b' : Fin 8, b' ≠ b → p.port.banks[b']'b'.2 = s.port.banks[b']'b'.2 := by
  set o : InFlight := ⟨.openRow b row, none, d, a⟩
  set v := setBank b ⟨some row, none, false, false⟩ (setInFlight none s) with hv
  obtain ⟨state, idle, owed, left⟩ := samePort_settleBank o b v
  have port : Unchanged [.port] s (settleBank o b v) :=
    ((setInFlight_unchanged none s).trans (setBank_unchanged _ _ _)).trans (settleBank_unchanged o b v)
  refine ⟨settleBank o b v, completing_of hr flying rfl, endsAt rfl port idle state left, owed, ?_, fun b' other => ?_⟩
  · rw [settleBank_bank, if_pos rfl, hv, setBank_bank, if_pos rfl]
    rfl
  · rw [settleBank_bank, if_neg (fun e => other e.symm), hv, setBank_bank, if_neg (fun e => other e.symm)]
    rfl

/-- A CLOSE's completion (R131). -/
theorem closeComplete_ends (hr : s.resetAsserted = false) (flying : s.port.inFlight = some ⟨.closeRow b, none, d, a⟩) :
    ∃ p, exec .closeComplete s = .next (afterCompletion ⟨.closeRow b, none, d, a⟩ p)
      ∧ EndsAt s p ⟨.closeRow b, none, d, a⟩ ∧ p.port.owed = s.port.owed
      ∧ p.port.banks[b]'b.2 = ⟨none, none, false, false⟩
      ∧ ∀ b' : Fin 8, b' ≠ b → p.port.banks[b']'b'.2 = s.port.banks[b']'b'.2 := by
  refine ⟨setBank b ⟨none, none, false, false⟩ (setInFlight none s), completing_of hr flying rfl,
    endsAt rfl ((setInFlight_unchanged none s).trans (setBank_unchanged _ _ _)) rfl rfl rfl, rfl, ?_, fun b' other => ?_⟩
  · rw [setBank_bank, if_pos rfl]
  · rw [setBank_bank, if_neg (fun e => other e.symm)]
    rfl

/-- A REFRESH's completion (R133). -/
theorem refreshComplete_ends (hr : s.resetAsserted = false) (flying : s.port.inFlight = some ⟨.refresh, none, d, a⟩) :
    ∃ p, exec .refreshComplete s = .next (afterCompletion ⟨.refresh, none, d, a⟩ p)
      ∧ EndsAt s p ⟨.refresh, none, d, a⟩ ∧ p.port.owed = s.port.owed - 1 ∧ p.port.banks = s.port.banks :=
  ⟨_, completing_of hr flying rfl,
    endsAt rfl ((setInFlight_unchanged none s).trans (setPort_unchanged _ _)) rfl rfl rfl, rfl, rfl⟩

/-- After an OPEN with nothing else wanted, its bank's timer running and no other bank to judge, the port stays idle. -/
theorem stays_idle {o : InFlight} {p : State} (ends : EndsAt s p o) (owed : p.port.owed = s.port.owed)
    (nothing : NothingWanted s) (here : p.port.banks[b]'b.2 = ⟨some row, some s.settings.rowCloseTime, false, false⟩)
    (there : ∀ b' : Fin 8, b' ≠ b → p.port.banks[b']'b'.2 = s.port.banks[b']'b'.2)
    (others : ∀ b' : Fin 8, (s.port.banks[b']'b'.2).row = none ∨ (s.port.banks[b']'b'.2).timer ≠ none) :
    (afterCompletion o p).port.inFlight = none
      ∧ (afterCompletion o p).port.banks[b] = ⟨some row, some s.settings.rowCloseTime, false, false⟩ := by
  obtain ⟨records, queue, window, none_owed, refreshing, unmarked⟩ := nothing
  have kept_here := (ends.bank here).keeps (.inr (.inl nofun))
  have kept_there {b' : Fin 8} (other : b' ≠ b) : (completed o p).port.banks[b'] = s.port.banks[b']'b'.2 :=
    (ends.bank (there b' other)).keeps ((others b').imp_right .inl)
  have still : afterCompletion o p = completed o p := by
    refine choose_of_nothingWanted (s := completed o p) ⟨?_, ?_, ?_, ?_, ?_, fun b' => ?_⟩
    · rw [ends.before.queries, records]
    · rw [ends.before.drain, queue]
    · rw [ends.before.window, window]
    · rw [ends.owed, owed, none_owed]
    · rw [ends.before.sched, refreshing]
    · by_cases other : b' = b
      · rw [other, kept_here]
      · rw [kept_there other, unmarked]
  rw [still, kept_here]
  exact ⟨ends.chosen.2.1, rfl⟩

end BankOperations

/-- Settles O50. -/
theorem startUpAndBankOperationsComplete : Obligations.StartUpAndBankOperationsComplete := by
  unfold Obligations.StartUpAndBankOperationsComplete
  intro s hr keeps
  refine ⟨fun init => ⟨beginRun s, takeEvent_due hr (by simp [init]), ?_⟩, fun run => takeEvent_not_due hr (by simp [run]),
    fun b row d a flying => ?_, fun b d a flying => ?_, fun d a flying => ?_, ?_⟩
  · refine ⟨(choose_port _).1, (choose_port _).2.2, (choose_port _).2.1, ?_, rfl⟩
    exact (((setPort_unchanged _ s).mono (by simp)).andThen (setPort_unchanged _ _)).andThen (choose_unchanged _)
  · obtain ⟨p, taken, ends, owed, here, there⟩ := openComplete_ends hr flying
    refine ⟨_, taken, ?_, fun b' other => ?_, ends.unchanged, ⟨_, ends.chosen, ends.before, ends.owed.trans owed,
      fun b' other => ends.bank (there b' other), ends.bank here⟩, fun nothing others live running =>
        stays_idle ends owed nothing ?_ there others⟩
    · rw [ends.rows, here, restartedBank]
      split <;> rfl
    · rw [ends.rows, there b' other]
    · simp only [here, restartedBank, live, Bool.false_eq_true, if_false, if_neg running]
  · obtain ⟨p, taken, ends, owed, here, there⟩ := closeComplete_ends hr flying
    have closed := (ends.bank here).keeps (.inl rfl)
    refine ⟨_, taken, ?_, fun b' other => ?_, ends.unchanged, _, ends.chosen, ends.before, ends.owed.trans owed, ?_, ?_,
      fun b' other => ends.bank (there b' other)⟩
    · rw [ends.rows, here]
    · rw [ends.rows, there b' other]
    · rw [closed]
    · rw [closed]
  · obtain ⟨p, taken, ends, owed, banks⟩ := refreshComplete_ends hr flying
    have bank (b : Fin 8) : p.port.banks[b]'b.2 = s.port.banks[b]'b.2 := by rw [banks]
    refine ⟨_, taken, ?_, fun b => ?_, ends.unchanged, _, ends.chosen, ends.before, ends.owed.trans owed,
      fun b => ends.bank (bank b)⟩
    · rw [afterCompletion_eq, (choose_port _).2.1, ends.owed, owed]
    · rw [ends.rows, bank]
  · intro stops inFlight
    refine ⟨fun no => completing_stops hr fun o ho => ?_, fun no => completing_stops hr fun o ho => ?_,
      fun no => completing_stops hr fun o ho => ?_, fun no => completing_stops hr fun o ho => ?_,
      fun no upset => completing_stops hr fun o ho => ?_⟩
    · split
      · exact absurd ⟨o, ho, ‹_›⟩ (no _ _)
      · rfl
    · split
      · exact absurd ⟨o, ho, ‹_›⟩ (no _)
      · rfl
    · split
      · exact absurd ⟨o, ho, ‹_›⟩ no
      · rfl
    · split
      · exact absurd ⟨o, ho, ‹_›⟩ (no _ _ _)
      · rfl
    · split
      · exact absurd ⟨o, ho, ‹_›⟩ (no _ _ _)
      · rfl

end Sys2Proof.Machine
end

section
/-! SUPPORT. The completion of a READ up to its end: the word examined, its finding counted, its bank settled, and the word
handed to its owner (R132, R141). -/

namespace Sys2Proof.Machine

/- A proof is elaborated in a task of its own. `set_option Elab.async false in` before a theorem makes the compile wait there
for the proofs before it, so that only a few are under way at a time; the linters, which would keep every proof's syntax
tree, are off, so that the compile of the whole text stays within its memory. -/
set_option linter.all false

open Sys2Proof

/-! ### The word check (R140, R141) -/

section Check

variable {m : Memory} {powerOn a : Nat}

theorem eq_zero_of_wrongCount {b : StoredBits} (h : wrongCount b = 0) : b = 0 := by
  unfold wrongCount at h
  rw [List.countP_eq_zero] at h
  refine BitVec.eq_of_getLsbD_eq fun i hi => ?_
  simpa using h i (List.mem_range.mpr hi)

theorem findingOf_written (h : wordWritten m a = true) {n : Nat} (hn : wrongCount (lookupWrong m.wrong a) = n) (hlow : n ≤ 2) :
    findingOf m powerOn a = if n = 0 then .clean else if n = 1 then .corrected else .uncorrectable := by
  unfold findingOf
  simp only [h, if_true, hn]
  match n, hlow with
  | 0, _ => rfl
  | 1, _ => rfl
  | 2, _ => rfl

/-- A READ of a word with no wrong bit, or with one, hands over the data as written (R132, R141). -/
theorem readWord_written (h : wordWritten m a = true) (hn : wrongCount (lookupWrong m.wrong a) ≤ 1) :
    readWord m powerOn a = storedWord m powerOn a := by
  unfold readWord
  dsimp only
  rcases Nat.eq_zero_or_pos (wrongCount (lookupWrong m.wrong a)) with none_wrong | some_wrong
  · rw [findingOf_written h none_wrong (by omega), eq_zero_of_wrongCount none_wrong]
    exact BitVec.xor_zero
  · have one_wrong : wrongCount (lookupWrong m.wrong a) = 1 := by omega
    rw [findingOf_written h one_wrong (by omega)]
    exact if_pos ⟨h, one_wrong⟩

end Check

/-! ### Counters that a handed word leaves -/

/-- The counters of the replies to queries (R179). -/
abbrev replyCounters : List (Fin 28) := [cntCut, cntHeldVoid, cntHeldAhead, cntHeldLate, cntOtherHeld]

theorem outcomeCounter_mem {o : DepthOutcome} {k : Fin 28} (h : outcomeCounter o = some k) : k ∈ replyCounters := by
  cases o <;> cases h <;> decide

theorem answerQuery_counters_other {n : Fin 6} {tag : Tag} {o : DepthOutcome} {c : Nat} {x : Int} {m : Modifiers} {s : State}
    {k : Fin 28} (hk : k ∉ replyCounters) : (answerQuery n tag o c x m s).counters[k]'k.2 = s.counters[k]'k.2 := by
  cases h : outcomeCounter o with
  | none => rw [answerQuery_uncounted h]
  | some j =>
    rw [answerQuery_counted h, getElem_set_counter, if_neg]
    rintro rfl
    exact hk (outcomeCounter_mem h)

theorem answerRecord_counters_other (r : QueryRecord) (s : State) {k : Fin 28} (hk : k ∉ replyCounters) :
    (answerRecord r s).counters[k]'k.2 = s.counters[k]'k.2 := by
  unfold answerRecord
  split
  · exact answerQuery_counters_other hk
  · exact answerQuery_counters_other hk

theorem deliverFetch_counters_other (seq : Count32) (i : Nat) (w : CellWord) (bad : Bool) (s : State) {k : Fin 28}
    (hk : k ∉ cntDeadline :: replyCounters) : (deliverFetch seq i w bad s).counters[k]'k.2 = s.counters[k]'k.2 := by
  obtain ⟨not_deadline, not_reply⟩ := List.ne_and_not_mem_of_not_mem_cons hk
  unfold deliverFetch
  dsimp only
  split
  · rfl
  · split
    · rw [judgeDeadline_counters_other not_deadline.symm, (removeRecords_unchanged _ _).counters,
        answerRecord_counters_other _ _ not_reply]
    · exact judgeDeadline_counters_other not_deadline.symm _

theorem handWord_counters_other (owner : ReadOwner) (w : CellWord) (bad : Bool) (s : State) {k : Fin 28}
    (hk : k ∉ cntDeadline :: replyCounters) : (handWord owner w bad s).counters[k]'k.2 = s.counters[k]'k.2 := by
  cases owner with
  | fetch seq index => exact deliverFetch_counters_other seq index w bad s hk
  | merge => exact congrArg (·[k]) (fillMerge_unchanged s w bad).counters
  | window y i => exact congrArg (·[k]) (placeWord_unchanged i w bad s).counters

/-! ### The word examined (R132, R141, R144) -/

section Examined

variable {s : State} {o : InFlight} {tile word : Nat} {owner : ReadOwner} {upset : StoredBits}

/-- The memory after the bits that went wrong, at a READ's completion. -/
def readMem (tile word : Nat) (upset : StoredBits) (s : State) : Memory := upsetWord (wordAddress tile word) upset s.mem

/-- The finding of the word read. -/
def readFinding (tile word : Nat) (upset : StoredBits) (s : State) : Finding :=
  findingOf (readMem tile word upset s) s.powerOns (wordAddress tile word)

/-- The word read, as it is handed over. -/
def readData (tile word : Nat) (upset : StoredBits) (s : State) : CellWord :=
  readWord (readMem tile word upset s) s.powerOns (wordAddress tile word)

/-- The port free, the bits that went wrong in the memory. -/
def upsetState (tile word : Nat) (upset : StoredBits) (s : State) : State :=
  (setInFlight none s).setMem (readMem tile word upset s)

/-- The word examined: its finding counted and its bank settled. -/
def examined (o : InFlight) (tile word : Nat) (upset : StoredBits) (s : State) : State :=
  settleBank o (bankOf tile) (noteFinding (readFinding tile word upset s) (upsetState tile word upset s))

/-- The word handed to an owner that is still there. -/
def handed (o : InFlight) (tile word : Nat) (owner : ReadOwner) (upset : StoredBits) (s : State) : State :=
  if o.discard then examined o tile word upset s
  else handWord owner (readData tile word upset s) (readFinding tile word upset s == .uncorrectable)
    (examined o tile word upset s)

set_option Elab.async false in
theorem completeRead_eq (o : InFlight) (tile word : Nat) (owner : ReadOwner) (upset : StoredBits) (s : State) :
    completeRead o tile word owner upset s = afterCompletion o (handed o tile word owner upset s) := rfl

theorem noteFinding_counters (f : Finding) (s : State) : (noteFinding f s).counters
    = if f = .clean then s.counters
      else if f = .corrected then s.counters.set cntCorrected (s.counters[cntCorrected]'cntCorrected.2 + 1)
      else s.counters.set cntUncorrectable (s.counters[cntUncorrectable]'cntUncorrectable.2 + 1) := by
  cases f with
  | clean => rfl
  | corrected => rfl
  | uncorrectable => exact (raise_unchanged _ _).counters

theorem noteFinding_notices (f : Finding) (s : State) : (noteFinding f s).notices
    = if f = .uncorrectable then { s.notices with pending := s.notices.pending ||| srcMemoryFault } else s.notices := by
  cases f with
  | clean => rfl
  | corrected => rfl
  | uncorrectable => exact raise_notices _ _

theorem examined_unchanged (o : InFlight) (tile word : Nat) (upset : StoredBits) (s : State) :
    Unchanged [.port, .mem, .counters, .notices, .links] s (examined o tile word upset s) :=
  ((((setInFlight_unchanged none s).mono (by simp)).andThen (setMem_unchanged _ _)).andThen
    (noteFinding_unchanged _ _)).andThen (settleBank_unchanged _ _ _)

theorem handed_counters {k : Fin 28} (hk : k ∉ cntDeadline :: replyCounters) :
    (handed o tile word owner upset s).counters[k]'k.2 = (noteFinding (readFinding tile word upset s) s).counters[k]'k.2 := by
  have settled : (examined o tile word upset s).counters[k]'k.2 = (noteFinding (readFinding tile word upset s) s).counters[k]'k.2 := by
    rw [examined, (settleBank_unchanged _ _ _).counters, noteFinding_counters, noteFinding_counters]
    rfl
  unfold handed
  split
  · exact settled
  · rw [handWord_counters_other _ _ _ _ hk, settled]

theorem handed_notices :
    (handed o tile word owner upset s).notices = (noteFinding (readFinding tile word upset s) s).notices := by
  have settled : (examined o tile word upset s).notices = (noteFinding (readFinding tile word upset s) s).notices := by
    rw [examined, (settleBank_unchanged _ _ _).notices, noteFinding_notices, noteFinding_notices]
    rfl
  unfold handed
  split
  · exact settled
  · rw [(handWord_unchanged _ _ _ _).notices, settled]

theorem afterCompletion_counters {k : Fin 28} (hk : k ∉ issueCounters) (o : InFlight) (s : State) :
    (afterCompletion o s).counters[k] = s.counters[k]'k.2 := by
  rw [afterCompletion_eq, choose_counters _ hk, (completed_unchanged o s).counters]

theorem execReadComplete_of (hr : s.resetAsserted = false) {sheet : Option Nat} {d a : Bool}
    (flying : s.port.inFlight = some ⟨.read tile word owner, sheet, d, a⟩) (upset : StoredBits) :
    exec (.readComplete upset) s = if tileCount ≤ tile then .fault .noSuchWord
      else .next (completeRead ⟨.read tile word owner, sheet, d, a⟩ tile word owner upset s) := completing_of hr flying rfl

end Examined

/-- Settles O51. -/
theorem readCompletionExaminesTheWord : Obligations.ReadCompletionExaminesTheWord := by
  unfold Obligations.ReadCompletionExaminesTheWord
  intro s tile word owner sheet d a upset hr flying address wrong
  have taken := execReadComplete_of hr flying upset
  refine ⟨fun outside => taken.trans (if_pos outside), fun inside => ⟨_, taken.trans (if_neg (Nat.not_le.2 inside)), ?_,
    fun wf => ⟨?_, fun x other => ?_⟩, fun wf written => ?_⟩⟩
  · rw [completeRead_mem]
    rfl
  all_goals obtain ⟨-, rising, -⟩ := (wf_iff _).1 wf
  · rw [completeRead_mem]
    exact lookupWrong_storeWrong_same rising
  · rw [completeRead_mem]
    exact lookupWrong_storeWrong_other other.symm _
  · have found : lookupWrong (readMem tile word upset s).wrong address = wrong := lookupWrong_storeWrong_same rising
    have written' : wordWritten (readMem tile word upset s) address = true := written
    have finding {n : Nat} (hn : wrongCount wrong = n) (low : n ≤ 2) : readFinding tile word upset s
        = if n = 0 then .clean else if n = 1 then .corrected else .uncorrectable :=
      findingOf_written written' (by rw [found, hn]) low
    have counter {k : Fin 28} (h₁ : k ∉ issueCounters) (h₂ : k ∉ cntDeadline :: replyCounters) :
        (completeRead ⟨.read tile word owner, sheet, d, a⟩ tile word owner upset s).counters[k]
          = (noteFinding (readFinding tile word upset s) s).counters[k]'k.2 := by
      rw [completeRead_eq, afterCompletion_counters h₁, handed_counters h₂]
    have data (low : wrongCount wrong ≤ 1) :
        readWord (completeRead ⟨.read tile word owner, sheet, d, a⟩ tile word owner upset s).mem s.powerOns address
          = storedWord s.mem s.powerOns address := by
      rw [completeRead_mem]
      exact readWord_written written'
        (show wrongCount (lookupWrong (readMem tile word upset s).wrong address) ≤ 1 by rw [found]; exact low)
    refine ⟨fun hn => ?_, fun hn => ?_, fun hn => ?_⟩
    all_goals rw [counter (k := cntCorrected) (by decide) (by decide), counter (k := cntUncorrectable) (by decide) (by decide),
      finding hn (by decide)]
    · exact ⟨rfl, rfl, data (by omega)⟩
    · refine ⟨?_, ?_, data (by omega)⟩
      · exact (getElem_set_counter _ _).trans (if_pos rfl)
      · exact (getElem_set_counter _ _).trans (if_neg (by decide))
    · refine ⟨?_, ?_, ?_⟩
      · rw [noteFinding_counters]
        exact (getElem_set_counter _ _).trans (if_neg (by decide))
      · rw [noteFinding_counters]
        exact (getElem_set_counter _ _).trans (if_pos rfl)
      · have bad : readFinding tile word upset s = .uncorrectable := finding hn (by decide)
        rw [completeRead_eq, afterCompletion_eq, (choose_unchanged _).notices, (completed_unchanged _ _).notices,
          handed_notices, noteFinding_notices, if_pos bad, BitVec.getLsbD_or]
        exact Bool.or_eq_true_iff.mpr (.inr (by decide))

end Sys2Proof.Machine
end

section
/-! SUPPORT. The byte form of records: fields, codes, texts, values and the frame read back as they were written, and
the round trip of the records that carry a command. -/

namespace Sys2Proof

/- A proof is elaborated in a task of its own. `set_option Elab.async false in` before a theorem makes the compile wait there
for the proofs before it, so that only a few are under way at a time; the linters, which would keep every proof's syntax
tree, are off, so that the compile of the whole text stays within its memory. -/
set_option linter.all false

/-! ### Numbers and fields (R162) -/

@[simp] theorem length_beBytes (w n : Nat) : (beBytes w n).length = w := by
  induction w with
  | zero => rfl
  | succ w ih => exact congrArg (· + 1) ih

theorem foldl_beNat (bs : List Byte) (a : Nat) :
    bs.foldl (fun a b => a * 256 + b.toNat) a = a * 256 ^ bs.length + beNat bs := by
  induction bs generalizing a with
  | nil => simp [beNat]
  | cons b bs ih =>
    have unfolded : beNat (b :: bs) = (0 * 256 + b.toNat) * 256 ^ bs.length + beNat bs := ih _
    rw [List.foldl_cons, ih, unfolded, List.length_cons, pow_succ]
    ring

theorem beNat_cons (b : Byte) (bs : List Byte) : beNat (b :: bs) = b.toNat * 256 ^ bs.length + beNat bs :=
  (foldl_beNat bs _).trans (congrArg (· * 256 ^ bs.length + beNat bs) (Nat.zero_add _))

theorem beNat_beBytes (w n : Nat) : beNat (beBytes w n) = n % 256 ^ w := by
  induction w with
  | zero => simp [beBytes, beNat, Nat.mod_one]
  | succ w ih =>
    rw [beBytes, beNat_cons, length_beBytes, ih, BitVec.toNat_ofNat, Nat.mod_pow_succ (b := 256), Nat.mul_comm, Nat.add_comm]

/-- A field behind the `v` bytes that a payload begins with. -/
theorem field_append {a r : List Byte} {o w : Nat} (h : a.length ≤ o) : field (a ++ r) o w = field r (o - a.length) w := by
  rw [field, List.drop_append, List.drop_eq_nil_of_le h, List.nil_append, field]

theorem field_behind {v n o w : Nat} (r : List Byte) (h : v ≤ o) : field (beBytes v n ++ r) o w = field r (o - v) w := by
  rw [field_append (by rwa [length_beBytes]), length_beBytes]

theorem field_front {w n : Nat} (r : List Byte) (h : n < 256 ^ w) : field (beBytes w n ++ r) 0 w = n := by
  rw [field, List.drop_zero, List.take_left' (length_beBytes w n), beNat_beBytes, Nat.mod_eq_of_lt h]

theorem field_alone {w n : Nat} (h : n < 256 ^ w) : field (beBytes w n) 0 w = n := by
  simpa using field_front [] h

set_option Elab.async false in
/-- A byte is a field of its own. -/
theorem cons_eq_beBytes (b : Byte) (r : List Byte) : b :: r = beBytes 1 b.toNat ++ r := by
  simp [beBytes]

theorem beInt_eq (w : Nat) (n : Int) : beInt w (beSigned w n) = (BitVec.ofInt (8 * w) n).toInt := by
  have bits : (256 : Nat) ^ w = 2 ^ (8 * w) := by rw [pow_mul]; rfl
  rw [beInt, beSigned, beNat_beBytes, bits, Nat.mod_eq_of_lt (BitVec.isLt _), BitVec.ofNat_toNat, BitVec.setWidth_eq]

theorem beInt_beSigned_three {n : Int} (h : fitsCoordinate n = true) : beInt 3 (beSigned 3 n) = n := by
  simp only [fitsCoordinate, Bool.and_eq_true, decide_eq_true_eq] at h
  rw [beInt_eq, BitVec.toInt_ofInt]
  exact Int.bmod_eq_of_le (by omega) (by omega)

theorem beInt_beSigned_four {n : Int} (h : (Value.number n).wellFormed = true) : beInt 4 (beSigned 4 n) = n := by
  simp only [Value.wellFormed, Bool.and_eq_true, decide_eq_true_eq] at h
  rw [beInt_eq, BitVec.toInt_ofInt]
  exact Int.bmod_eq_of_le (by omega) (by omega)

/-! ### Codes -/

@[simp] theorem length_codeBytes (cs : List Code) : (codeBytes cs).length = 2 * cs.length := by
  induction cs with
  | nil => rfl
  | cons c cs ih => rw [codeBytes, List.flatMap_cons, List.length_append, length_beBytes, ← codeBytes, ih, List.length_cons]; omega

theorem codesAt_succ (p : List Byte) (o k : Nat) :
    codesAt p o (k + 1) = BitVec.ofNat 16 (field p o 2) :: codesAt p (o + 2) k := by
  rw [codesAt, List.range_succ_eq_map, List.map_cons, List.map_map, codesAt]
  congr 1
  exact List.map_congr_left fun i _ => by simp only [Function.comp_apply]; congr 2; omega

theorem codesAt_append {a r : List Byte} {o k : Nat} (h : a.length ≤ o) :
    codesAt (a ++ r) o k = codesAt r (o - a.length) k :=
  List.map_congr_left fun i _ => by rw [field_append (by omega), Nat.sub_add_comm h]

theorem codesAt_front (cs : List Code) (r : List Byte) : codesAt (codeBytes cs ++ r) 0 cs.length = cs := by
  induction cs with
  | nil => rfl
  | cons c cs ih =>
    have apart : codeBytes (c :: cs) ++ r = beBytes 2 c.toNat ++ (codeBytes cs ++ r) := by
      rw [codeBytes, List.flatMap_cons, List.append_assoc, ← codeBytes]
    rw [apart, List.length_cons, codesAt_succ, field_front _ (by have := c.isLt; omega),
      codesAt_append (by rw [length_beBytes]), length_beBytes, ih, BitVec.ofNat_toNat, BitVec.setWidth_eq]

/-! ### The dropout plane (R163) -/

theorem getLsbD_foldl_or (f : Nat → Bool) (g : Nat → Byte) (is : List Nat) (b : Byte) (k : Nat) :
    (is.foldl (fun b i => if f i then b ||| g i else b) b).getLsbD k
      = (b.getLsbD k || is.any (fun i => f i && (g i).getLsbD k)) := by
  induction is generalizing b with
  | nil => simp
  | cons i is ih =>
    rw [List.foldl_cons, ih, List.any_cons]
    cases f i <;> simp [Bool.or_assoc]

theorem planeByte_bit (flags : List Bool) (j : Nat) {i : Nat} (h : i < 8) :
    (planeByte flags j).getLsbD (7 - i) = flags.getD (8 * j + i) false := by
  rw [planeByte, getLsbD_foldl_or (fun i => flags.getD (8 * j + i) false) (fun i => ((0x80 >>> i : Nat) : Byte))]
  have ranged : List.range 8 = [0, 1, 2, 3, 4, 5, 6, 7] := rfl
  interval_cases i <;> simp [ranged]

theorem planeFlag_planeBytes (flags : List Bool) {k : Nat} (h : k < flags.length) :
    planeFlag (planeBytes flags) k = flags.getD k false := by
  have inside : k / 8 < (flags.length + 7) / 8 := by omega
  have byte : (planeBytes flags).getD (k / 8) 0 = planeByte flags (k / 8) := by
    rw [planeBytes, List.getD_eq_getElem?_getD, List.getElem?_map, List.getElem?_range inside]
    rfl
  rw [planeFlag, byte, planeByte_bit flags _ (Nat.mod_lt k (by decide)), Nat.div_add_mod]

theorem planeFlags_planeBytes (flags : List Bool) :
    (List.range flags.length).map (planeFlag (planeBytes flags)) = flags :=
  List.ext_getElem (by simp) fun k hk hk' => by
    rw [List.getElem_map, List.getElem_range, planeFlag_planeBytes flags hk', List.getD_eq_getElem _ _ hk']

set_option Elab.async false in
@[simp] theorem length_planeBytes (flags : List Bool) : (planeBytes flags).length = (flags.length + 7) / 8 := by
  simp [planeBytes]

theorem length_samplesPayload (xs : List (Code × Bool)) :
    (samplesPayload xs).length = 2 + 2 * xs.length + (xs.length + 7) / 8 := by
  simp [samplesPayload, Nat.add_assoc]

theorem samplesOf_samplesPayload {xs : List (Code × Bool)} (h₁ : 1 ≤ xs.length) (h₂ : xs.length ≤ 512) :
    samplesOf (samplesPayload xs) = some xs := by
  have long := length_samplesPayload xs
  have front : samplesPayload xs
      = beBytes 2 xs.length ++ (codeBytes (xs.map Prod.fst) ++ planeBytes (xs.map Prod.snd)) := by
    rw [samplesPayload, List.append_assoc]
  have count : field (samplesPayload xs) 0 2 = xs.length := by rw [front, field_front _ (by omega)]
  have codes : codesAt (samplesPayload xs) 2 xs.length = xs.map Prod.fst := by
    rw [front, codesAt_append (by rw [length_beBytes]), length_beBytes]
    simpa using codesAt_front (xs.map Prod.fst) (planeBytes (xs.map Prod.snd))
  have plane : (samplesPayload xs).drop (2 + 2 * xs.length) = planeBytes (xs.map Prod.snd) := by
    rw [samplesPayload, List.drop_left' (by simp)]
  have flags := planeFlags_planeBytes (xs.map Prod.snd)
  rw [List.length_map] at flags
  rw [samplesOf]
  simp only [count, codes, plane, flags]
  rw [if_pos ⟨by omega, h₁, h₂, long⟩]
  exact congrArg some (List.zip_of_prod rfl rfl).symm

/-! ### Texts and values (R164) -/

theorem takeText_textBytes {t r : List Byte} (h : textFits t = true) : takeText (textBytes t ++ r) = some (t, r) := by
  simp only [textFits, Bool.and_eq_true, decide_eq_true_eq] at h
  obtain ⟨long, short⟩ := h
  have count : (BitVec.ofNat 8 t.length).toNat = t.length := by
    rw [BitVec.toNat_ofNat]; exact Nat.mod_eq_of_lt (by omega)
  simp [textBytes, takeText, count, long, short]

theorem itemText_read {n : ItemName} (h : n.wellFormed = true) :
    textFits (itemText n) = true ∧ itemOfText (itemText n) = n := by
  cases n with
  | setting n => cases n <;> exact ⟨rfl, rfl⟩
  | param n => cases n <;> exact ⟨rfl, rfl⟩
  | readOnly n => cases n <;> exact ⟨rfl, rfl⟩
  | other t =>
    obtain ⟨fits, back⟩ := Bool.and_eq_true_iff.mp h
    exact ⟨fits, eq_of_beq back⟩

theorem valueText_read {n : ValueName} (h : n.wellFormed = true) :
    textFits (valueText n) = true ∧ valueOfText (valueText n) = n := by
  cases n with
  | other t =>
    obtain ⟨fits, back⟩ := Bool.and_eq_true_iff.mp h
    exact ⟨fits, eq_of_beq back⟩
  | _ => exact ⟨rfl, rfl⟩

theorem length_beSigned (w : Nat) (n : Int) : (beSigned w n).length = w := length_beBytes w _

theorem valueOf_number {n : Int} (h : (Value.number n).wellFormed = true) :
    valueOf (valueBytes (.number n)) = some (.number n) := by
  show (if (beSigned 4 n).length = 4 then some (Value.number (beInt 4 (beSigned 4 n))) else none) = _
  rw [if_pos (length_beSigned 4 n), beInt_beSigned_four h]

theorem valueOf_valueBytes {v : Value} (h : v.wellFormed = true) : valueOf (valueBytes v) = some v := by
  cases v with
  | number n => exact valueOf_number h
  | name n =>
    obtain ⟨fits, back⟩ := valueText_read h
    have taken := takeText_textBytes (r := []) fits
    rw [List.append_nil] at taken
    simp [valueBytes, valueOf, taken, back]
  | sources b =>
    have number : beNat (beBytes 2 b.toNat) = b.toNat := by
      rw [beNat_beBytes]; exact Nat.mod_eq_of_lt b.isLt
    simp [valueBytes, valueOf, number]

/-! ### The frame (R162, R165) -/

theorem unframe_frameBytes {kind : Nat} (tag : Tag) {payload : List Byte} (hk : kind < 256) (hp : payload.length ≤ 2112) :
    unframe (frameBytes kind tag payload) = some (kind, tag, payload) := by
  set body := beBytes 1 kind ++ [tag] ++ beBytes 2 payload.length ++ payload with body_eq
  set check := beBytes 2 (crcBytes body).toNat with check_eq
  have long : body.length = 4 + payload.length := by simp [body_eq]; omega
  have framed : frameBytes kind tag payload = body ++ check := rfl
  have apart : body ++ check
      = beBytes 1 kind ++ (beBytes 1 tag.toNat ++ (beBytes 2 payload.length ++ (payload ++ check))) := by
    simp [body_eq, ← cons_eq_beBytes]
  have whole : (body ++ check).length = 6 + payload.length := by
    rw [List.length_append, long, check_eq, length_beBytes]; omega
  have length : field (body ++ check) 2 2 = payload.length := by
    rw [apart, field_behind _ (by decide), field_behind _ (by decide)]
    exact field_front _ (by omega)
  have sum : field (body ++ check) (4 + payload.length) 2 = (crcBytes ((body ++ check).take (4 + payload.length))).toNat := by
    rw [field_append (by rw [long]), long, Nat.sub_self, List.take_left' long]
    exact field_alone (BitVec.isLt _)
  have first : field (body ++ check) 0 1 = kind := by
    rw [apart]; exact field_front _ hk
  have second : (body ++ check).getD 1 0 = tag := by simp [body_eq, beBytes]
  have content : ((body ++ check).drop 4).take payload.length = payload := by
    have dropped : (body ++ check).drop 4 = payload ++ check := by simp [body_eq, beBytes]
    rw [dropped, List.take_left' rfl]
  rw [unframe, framed]
  simp only [length, first, second, content]
  exact if_pos ⟨by omega, hp, whole, sum⟩

theorem decodeRecord_frameBytes {p : Port} {kind : Nat} {tag : Tag} {payload : List Byte} (hk : kind < 256)
    (hp : payload.length ≤ 2112) : decodeRecord p (frameBytes kind tag payload) = deliver p kind tag payload := by
  rw [decodeRecord, unframe_frameBytes tag hk hp]
  rfl

/-! ### Requests and the records of Ports T and S (R163, R164) -/

theorem length_valueBytes {v : Value} (h : v.wellFormed = true) : (valueBytes v).length ≤ 34 := by
  cases v with
  | number n => simp [valueBytes, length_beSigned]
  | name n =>
    have fits := (valueText_read h).1
    simp only [textFits, Bool.and_eq_true, decide_eq_true_eq] at fits
    simp [valueBytes, textBytes]
    omega
  | sources b => simp [valueBytes]

theorem length_itemText {n : ItemName} (h : n.wellFormed = true) : (itemText n).length ≤ 32 := by
  have fits := (itemText_read h).1
  simp only [textFits, Bool.and_eq_true, decide_eq_true_eq] at fits
  exact fits.2

theorem length_payload {r : CellRequest} (h : r.wellFormed = true) : r.payload.length ≤ 2112 := by
  cases r with
  | set n sp v =>
    simp only [CellRequest.wellFormed, Bool.and_eq_true] at h
    obtain ⟨⟨name, -⟩, value⟩ := h
    have := length_itemText name
    have := length_valueBytes value
    simp [CellRequest.payload, textBytes]
    omega
  | get n sp sel =>
    simp only [CellRequest.wellFormed, Bool.and_eq_true] at h
    obtain ⟨⟨name, -⟩, -⟩ := h
    have := length_itemText name
    simp [CellRequest.payload, textBytes]
    omega
  | loadBlock n x y w h' cs =>
    simp only [CellRequest.wellFormed, Bool.and_eq_true, decide_eq_true_eq] at h
    obtain ⟨-, few⟩ := h
    simp [CellRequest.payload]
    omega
  | _ => simp [CellRequest.payload]

set_option Elab.async false in
theorem kind_lt (r : CellRequest) : r.kind < 256 := by
  cases r <;> simp [CellRequest.kind]

theorem toNat_byte {n : Nat} (h : fitsByte n = true) : (BitVec.ofNat 8 n).toNat = n := by
  rw [BitVec.toNat_ofNat]
  exact Nat.mod_eq_of_lt (of_decide_eq_true h)

theorem beBytes_one (n : Nat) (r : List Byte) : beBytes 1 n ++ r = BitVec.ofNat 8 n :: r := by
  simp [beBytes]

theorem requestOf_set {n : ItemName} {sp : Nat} {v : Value} (h : (CellRequest.set n sp v).wellFormed = true) :
    requestOf 1 (CellRequest.set n sp v).payload = some (.set n sp v) := by
  simp only [CellRequest.wellFormed, Bool.and_eq_true] at h
  obtain ⟨⟨name, spindle⟩, value⟩ := h
  obtain ⟨fits, back⟩ := itemText_read name
  simp only [requestOf, CellRequest.payload, List.append_assoc, takeText_textBytes fits, beBytes_one,
    valueOf_valueBytes value, Option.map_some, back, toNat_byte spindle]

theorem requestOf_get {n : ItemName} {sp sel : Nat} (h : (CellRequest.get n sp sel).wellFormed = true) :
    requestOf 2 (CellRequest.get n sp sel).payload = some (.get n sp sel) := by
  simp only [CellRequest.wellFormed, Bool.and_eq_true] at h
  obtain ⟨⟨name, spindle⟩, selector⟩ := h
  obtain ⟨fits, back⟩ := itemText_read name
  have last : beBytes 1 sel = [BitVec.ofNat 8 sel] := by simpa using beBytes_one sel []
  simp only [requestOf, CellRequest.payload, List.append_assoc, takeText_textBytes fits, beBytes_one, last,
    back, toNat_byte spindle, toNat_byte selector]

theorem requestOf_loadBlock {n x y w h : Nat} {cs : List Code}
    (wf : (CellRequest.loadBlock n x y w h cs).wellFormed = true) :
    requestOf 8 (CellRequest.loadBlock n x y w h cs).payload = some (.loadBlock n x y w h cs) := by
  simp only [CellRequest.wellFormed, fitsByte, fits2, Bool.and_eq_true, decide_eq_true_eq] at wf
  obtain ⟨⟨⟨⟨⟨hn, hx⟩, hy⟩, hw⟩, hh⟩, few⟩ := wf
  have long : (CellRequest.loadBlock n x y w h cs).payload.length = 9 + 2 * cs.length := by
    simp [CellRequest.payload]; omega
  have codes : codesAt (CellRequest.loadBlock n x y w h cs).payload 9 cs.length = cs := by
    have front := codesAt_front cs []
    rw [List.append_nil] at front
    rw [CellRequest.payload, codesAt_append (by simp)]
    simpa using front
  have count : (9 + 2 * cs.length - 9) / 2 = cs.length := by omega
  have fields : requestOf 8 (CellRequest.loadBlock n x y w h cs).payload
      = some (.loadBlock n x y w h (codesAt (CellRequest.loadBlock n x y w h cs).payload 9 cs.length)) := by
    simp only [requestOf, long, count]
    rw [if_pos ⟨by omega, by omega, few⟩]
    simp [CellRequest.payload, field_behind, field_front, hn, hx, hy, hw, hh]
  rw [fields, codes]

theorem requestOf_payload {r : CellRequest} (h : r.wellFormed = true) : requestOf r.kind r.payload = some r := by
  cases r with
  | set n sp v => exact requestOf_set h
  | get n sp sel => exact requestOf_get h
  | loadBlock n x y w h' cs => exact requestOf_loadBlock h
  | timeSet v =>
    have := v.isLt
    simp [requestOf, CellRequest.kind, CellRequest.payload, field_alone, this]
  | spindleRelease sp c =>
    have := sp.isLt
    simp only [CellRequest.wellFormed, fitsByte, decide_eq_true_eq] at h
    simp [requestOf, CellRequest.kind, CellRequest.payload, cons_eq_beBytes, field_behind, field_front, field_alone, this, h]
  | spindleRetract sp =>
    have := sp.isLt
    simp [requestOf, CellRequest.kind, CellRequest.payload, cons_eq_beBytes, field_alone, this]
  | spindleResume sp =>
    have := sp.isLt
    simp [requestOf, CellRequest.kind, CellRequest.payload, cons_eq_beBytes, field_alone, this]
  | noticeAck b =>
    have := b.isLt
    simp [requestOf, CellRequest.kind, CellRequest.payload, field_alone, this]
  | alarmSet u c m e =>
    simp only [CellRequest.wellFormed, fitsByte, Bool.and_eq_true, decide_eq_true_eq] at h
    simp [requestOf, CellRequest.kind, CellRequest.payload, field_behind, field_front, field_alone, h, c.isLt, m.isLt]
  | _ =>
    simp only [CellRequest.wellFormed, fitsByte, fits2, fits3, fits4, Bool.and_eq_true, decide_eq_true_eq] at h
    simp [requestOf, CellRequest.kind, CellRequest.payload, field_behind, field_front, field_alone, h]

end Sys2Proof

namespace Sys2Proof.Machine

open Sys2Proof

/-- Settles O60. The frame gives back kind, tag and payload, and each payload its fields. -/
theorem recordsDecodeToTheCommandTheyCarry : Obligations.RecordsDecodeToTheCommandTheyCarry := by
  intro i p bytes wf encoded
  cases i with
  | cellRequestArrives tag r =>
    obtain ⟨rfl, rfl⟩ := Prod.mk.inj (Option.some.inj encoded)
    rw [decodeRecord_frameBytes (kind_lt r) (length_payload wf), deliver, requestOf_payload wf]
    rfl
  | sweepOpen tag n d y =>
    obtain ⟨rfl, rfl⟩ := Prod.mk.inj (Option.some.inj encoded)
    rw [decodeRecord_frameBytes (by decide) (by simp)]
    simp only [Instr.wellFormed, Instr.request?, fitsByte, fits2, Bool.and_eq_true, decide_eq_true_eq] at wf
    simp [deliver, field_behind, field_front, field_alone, wf]
  | samples tag xs =>
    obtain ⟨rfl, rfl⟩ := Prod.mk.inj (Option.some.inj encoded)
    simp only [Instr.wellFormed, Instr.request?, Bool.and_eq_true, decide_eq_true_eq] at wf
    obtain ⟨some_, few⟩ := wf
    rw [decodeRecord_frameBytes (by decide) (by rw [length_samplesPayload]; omega), deliver,
      samplesOf_samplesPayload some_ few]
    rfl
  | sweepClose tag c =>
    obtain ⟨rfl, rfl⟩ := Prod.mk.inj (Option.some.inj encoded)
    rw [decodeRecord_frameBytes (by decide) (by simp)]
    simp [deliver, field_alone, c.isLt]
  | depthQuery n tag d u v =>
    obtain ⟨rfl, rfl⟩ := Prod.mk.inj (Option.some.inj encoded)
    rw [decodeRecord_frameBytes (by decide) (by simp [length_beSigned])]
    simp only [Instr.wellFormed, Instr.request?, Bool.and_eq_true] at wf
    obtain ⟨hu, hv⟩ := wf
    have second : (beBytes 2 d.toNat ++ (beSigned 3 u ++ beSigned 3 v)).drop 5 = beSigned 3 v := by
      rw [← List.append_assoc, List.drop_left' (by simp [length_beSigned])]
    simp [deliver, field_front, d.isLt, length_beSigned, second, beInt_beSigned_three, hu, hv]
  | touchOff n tag l =>
    obtain ⟨rfl, rfl⟩ := Prod.mk.inj (Option.some.inj encoded)
    rw [decodeRecord_frameBytes (by decide) (by simp)]
    simp only [Instr.wellFormed, Instr.request?, fits3, decide_eq_true_eq] at wf
    simp [deliver, field_alone, wf]
  | _ => exact absurd encoded nofun

end Sys2Proof.Machine
end

section
/-! SUPPORT. A WRITE's completion (R43, R132): the memory with the word stored, the entry retired, the sheet's progress, and a
RETIRING sheet freed at the completion of its operation (R18). -/

namespace Sys2Proof.Machine

/- A proof is elaborated in a task of its own. `set_option Elab.async false in` before a theorem makes the compile wait there
for the proofs before it, so that only a few are under way at a time; the linters, which would keep every proof's syntax
tree, are off, so that the compile of the whole text stays within its memory. -/
set_option linter.all false

open Sys2Proof

/-! ### The memory with a word stored (R128, R140; logs 5 and 6) -/

section Stored

variable {m : Memory} {a x powerOn : Nat} {w : CellWord}

theorem sheetAt_congr {s t : State} (h : t.sheets = s.sheets) (n : Nat) : sheetAt t n = sheetAt s n := by
  rw [sheetAt, h, sheetAt]

theorem wordOfBytes_wordByte (w : CellWord) : wordOfBytes (wordByte w) = w := by
  unfold wordOfBytes wordByte
  refine BitVec.eq_of_getLsbD_eq fun i hi => ?_
  simp only [BitVec.getLsbD_append, BitVec.getLsbD_extractLsb']
  interval_cases i <;> simp

theorem storedWord_congr {m' : Memory} (h : ∀ k < 8, lookupByte m'.cells (8 * a + k) = lookupByte m.cells (8 * a + k)) :
    storedWord m' powerOn a = storedWord m powerOn a := by
  simp only [storedWord, wordOfBytes, h 0, h 1, h 2, h 3, h 4, h 5, h 6, h 7, Nat.reduceLT]

theorem lookupByte_stored {k : Nat} (hk : k < 8) :
    lookupByte (storeWord a w m).cells (8 * a + k) = some (wordByte w k) := by
  rw [lookupByte_storeWord, if_pos (by omega), Nat.add_sub_cancel_left]

theorem storedWord_storeWord_same : storedWord (storeWord a w m) powerOn a = w := by
  refine Eq.trans ?_ (wordOfBytes_wordByte w)
  simp only [storedWord, wordOfBytes, lookupByte_stored, Nat.reduceLT, Option.getD_some]

theorem storedWord_storeWord_other (h : x ≠ a) : storedWord (storeWord a w m) powerOn x = storedWord m powerOn x :=
  storedWord_congr fun k hk => by rw [lookupByte_storeWord, if_neg (by omega)]

theorem wordWritten_storeWord : wordWritten (storeWord a w m) a = true := by
  refine List.all_eq_true.mpr fun k hk => ?_
  rw [lookupByte_stored (List.mem_range.mp hk)]
  rfl

theorem lookupWrong_storeWord_same (h : m.wf = true) : lookupWrong (storeWord a w m).wrong a = 0 :=
  lookupWrong_storeWrong_same ((wf_iff m).mp h).2.1

theorem lookupWrong_storeWord_other (h : x ≠ a) : lookupWrong (storeWord a w m).wrong x = lookupWrong m.wrong x :=
  lookupWrong_storeWrong_other h.symm m.wrong

end Stored

/-! ### A RETIRING sheet at the completion of its operation (R18) -/

section Retired

variable {s : State} {o : InFlight} {n : Nat} {x : Sheet}

/-- The sheet that an operation is for is open and not RETIRING. -/
def SheetLive (o : InFlight) (s : State) : Prop := ∀ n x, o.sheet = some n → sheetAt s n = some x → x.state ≠ .retiring

theorem retireAfter_live (h : SheetLive o s) : retireAfter o s = s := by
  unfold retireAfter
  split
  · rfl
  · rename_i n hn
    split
    · rfl
    · rename_i x hx
      exact if_neg (h n x hn hx)

theorem retireAfter_retiring (hn : o.sheet = some n) (hx : sheetAt s n = some x) (hs : x.state = .retiring) :
    (∀ m, sheetAt (retireAfter o s) m = if m = n then none else sheetAt s m)
    ∧ ∀ tag, x.closeWaiting = some tag → portUp s .c = true →
        (linkOf (retireAfter o s) .c).toSend = (linkOf s .c).toSend ++ [.cellReply tag 6 .done .empty] := by
  have freed (m : Nat) : sheetAt (setSheet n none s) m = if m = n then none else sheetAt s m := by
    simp [sheetAt_setSheet, lt_of_sheetAt hx]
  simp only [retireAfter, hn, hx, hs, if_true]
  cases hc : x.closeWaiting with
  | none => exact ⟨freed, nofun⟩
  | some tag =>
    refine ⟨fun m => ?_, fun tag' e up => ?_⟩
    · rw [← freed m]
      exact sheetAt_congr (reply_unchanged _ _ _ _ _).sheets m
    · cases e
      exact toSend_send (s := setSheet n none s) _ (by rwa [portUp_congr _ (setSheet_unchanged n none s).links])

set_option Elab.async false in
theorem completed_live (h : SheetLive o s) : Unchanged [.port] s (completed o s) := by
  rw [completed, retireAfter_live h]
  exact judgeBanks_unchanged s

end Retired

/-! ### The head entry retired (R43) -/

section Retiring

variable {s t : State} {e : Entry} {rest : List Entry} {n : Nat} {x : Sheet}

/-- The head entry off the queue and counted, the base mode judged. -/
def headTaken (rest : List Entry) (s : State) : State :=
  judgeBaseMode (count cntDrainWritten (s.setDrain { s.drain with queue := rest }))

/-- Rows written raised at an end-of-row entry. -/
def rowEnded (e : Entry) (s : State) : State := if e.endOfRow.isSome then raiseWritten e.sheet s else s

theorem retireHead_of_queue (h : s.drain.queue = e :: rest) :
    retireHead s = testSheetReady e.sheet (endFill e (rowEnded e (headTaken rest s))) := by
  simp only [retireHead, h, rowEnded, headTaken]

theorem headTaken_drain (rest : List Entry) (s : State) : (headTaken rest s).drain = { s.drain with queue := rest } :=
  (judgeBaseMode_sends_nothing _).drain

theorem headTaken_sends_nothing (rest : List Entry) (s : State) :
    Unchanged [.drain, .sched, .notices, .counters] s (headTaken rest s) :=
  (((setDrain_unchanged _ s).mono (by decide)).andThen (count_unchanged _ _)).andThen (judgeBaseMode_sends_nothing _)

theorem judgeBaseMode_sched (s : State) :
    (judgeBaseMode s).sched = { s.sched with baseMode := (judgeBaseMode s).sched.baseMode } := by
  cases hm : s.sched.baseMode with
  | readFirst =>
    by_cases h : s.settings.drainHigh ≤ s.drain.queue.length
    · rw [judgeBaseMode_enter hm h]
      rfl
    · rw [judgeBaseMode_stay_readFirst hm (Nat.lt_of_not_le h)]
  | writeFirst =>
    rw [judgeBaseMode_writeFirst hm]
    split <;> rfl

theorem judgeBaseMode_counters_other (s : State) {k : Fin 28} (hk : cntWriteFirst ≠ k) :
    (judgeBaseMode s).counters[k]'k.2 = s.counters[k]'k.2 := by
  cases hm : s.sched.baseMode with
  | readFirst =>
    by_cases h : s.settings.drainHigh ≤ s.drain.queue.length
    · rw [judgeBaseMode_enter hm h, count_counters]
      exact (getElem_set_counter _ _).trans (if_neg hk)
    · rw [judgeBaseMode_stay_readFirst hm (Nat.lt_of_not_le h)]
  | writeFirst =>
    rw [judgeBaseMode_writeFirst hm]
    split <;> rfl

theorem headTaken_counter (rest : List Entry) (s : State) :
    (headTaken rest s).counters[cntDrainWritten]'cntDrainWritten.2 = s.counters[cntDrainWritten]'cntDrainWritten.2 + 1 := by
  rw [headTaken, judgeBaseMode_counters_other _ (by decide), count_counters]
  exact (getElem_set_counter _ _).trans (if_pos rfl)

/-- A judgement of the base mode stands while the occupancy, the mode, the notice source and the counter stay. -/
theorem BaseModeJudged.kept {u : State} (h : BaseModeJudged s t) (hd : u.drain = t.drain)
    (hm : u.sched.baseMode = t.sched.baseMode) (hn : u.notices.pending.getLsbD 9 = t.notices.pending.getLsbD 9)
    (hc : u.counters[cntWriteFirst]'cntWriteFirst.2 = t.counters[cntWriteFirst]'cntWriteFirst.2) : BaseModeJudged s u := by
  unfold BaseModeJudged at h ⊢
  rwa [hd, hm, hn, hc]

theorem headTaken_judged (rest : List Entry) (s : State) : BaseModeJudged s (headTaken rest s) := by
  have judged := baseModeJudged_judgeBaseMode (count cntDrainWritten (s.setDrain { s.drain with queue := rest }))
  have counter : (count cntDrainWritten (s.setDrain { s.drain with queue := rest })).counters[cntWriteFirst]'cntWriteFirst.2
      = s.counters[cntWriteFirst]'cntWriteFirst.2 := by
    rw [count_counters]
    exact (getElem_set_counter _ _).trans (if_neg (by decide))
  unfold BaseModeJudged at judged ⊢
  rwa [counter] at judged

/-! What the later parts of a retirement do to the sheets. -/

theorem raiseWritten_last {r : Relief} (hx : sheetAt s n = some x) (hk : x.kind = .relief r) (hs : x.state = .scanning)
    (last : r.written + 1 = x.geom.height) :
    raiseWritten n s = raise srcSheetComplete
      (setSheet n (some { x with state := .ready, kind := .relief { r with written := r.written + 1 } }) s) := by
  simp [raiseWritten, hx, hk, hs, last]

theorem raiseWritten_more {r : Relief} (hx : sheetAt s n = some x) (hk : x.kind = .relief r)
    (more : ¬ r.written + 1 = x.geom.height) :
    raiseWritten n s = setSheet n (some { x with kind := .relief { r with written := r.written + 1 } }) s := by
  simp [raiseWritten, hx, hk, more]

set_option Elab.async false in
theorem endFill_not_fill (h : e.kind ≠ .fill) (s : State) : endFill e s = s := by
  unfold endFill
  split
  · rfl
  · exact if_neg fun ⟨fill, _⟩ => h fill

theorem endFill_not_filling (hx : sheetAt s e.sheet = some x) (h : x.state ≠ .filling) : endFill e s = s := by
  simp only [endFill, hx]
  exact if_neg fun ⟨_, filling, _⟩ => h filling

theorem endFill_filling (hx : sheetAt s e.sheet = some x) (hs : x.state = .filling) (hk : e.kind = .fill) :
    sheetAt (endFill e s) e.sheet = some { x with
      state := if e.tile + 1 = x.geom.base + extentOf x.geom ∧ e.word = 255 then .loading else .filling } := by
  by_cases last : e.tile + 1 = x.geom.base + extentOf x.geom ∧ e.word = 255
  · rw [if_pos last]
    simp only [endFill, hx]
    rw [if_pos ⟨hk, hs, last⟩, sheetAt_setSheet_same _ hx]
  · rw [if_neg last]
    simp only [endFill, hx]
    rw [if_neg (fun ⟨_, _, h⟩ => last h), hx, ← hs]

theorem raiseWritten_other {m : Nat} (h : m ≠ n) (s : State) : sheetAt (raiseWritten n s) m = sheetAt s m := by
  unfold raiseWritten
  dsimp only
  split
  · rfl
  · split
    · rfl
    · split
      · rw [sheetAt, (raise_unchanged _ _).sheets]
        exact sheetAt_setSheet_other _ h
      · exact sheetAt_setSheet_other _ h

theorem endFill_other {m : Nat} (h : m ≠ e.sheet) (s : State) : sheetAt (endFill e s) m = sheetAt s m := by
  unfold endFill
  split
  · rfl
  · split
    · exact sheetAt_setSheet_other _ h
    · rfl

theorem testSheetReady_other {m : Nat} (h : m ≠ n) (s : State) : sheetAt (testSheetReady n s) m = sheetAt s m := by
  unfold testSheetReady
  split
  · rfl
  · split
    · rfl
    · split
      · rw [sheetAt_congr (reply_unchanged _ _ _ _ _).sheets]
        exact sheetAt_setSheet_other _ h
      · rfl

/-- No sheet becomes RETIRING. -/
def NoneRetires (s t : State) : Prop :=
  ∀ n y, sheetAt t n = some y → y.state = .retiring → ∃ x, sheetAt s n = some x ∧ x.state = .retiring

theorem NoneRetires.refl (s : State) : NoneRetires s s := fun _ y hy hr => ⟨y, hy, hr⟩

theorem NoneRetires.trans {u : State} (h₁ : NoneRetires s t) (h₂ : NoneRetires t u) : NoneRetires s u :=
  fun n z hz hr => by
    obtain ⟨y, hy, hr'⟩ := h₂ n z hz hr
    exact h₁ n y hy hr'

theorem NoneRetires.of_sheets (h : t.sheets = s.sheets) : NoneRetires s t :=
  fun n y hy hr => ⟨y, by rwa [sheetAt, h] at hy, hr⟩

theorem noneRetires_setSheet {y : Sheet} (hx : sheetAt s n = some x) (hy : y.state = .retiring → x.state = .retiring) :
    NoneRetires s (setSheet n (some y) s) := by
  intro m z hz hr
  rw [sheetAt_setSheet] at hz
  split at hz
  · rename_i here
    cases hz
    exact ⟨x, here.1 ▸ hx, hy hr⟩
  · exact ⟨z, hz, hr⟩

theorem raiseWritten_noneRetires (n : Nat) (s : State) : NoneRetires s (raiseWritten n s) := by
  unfold raiseWritten
  dsimp only
  split
  · exact .refl s
  · rename_i x hx
    split
    · exact .refl s
    · split
      · exact (noneRetires_setSheet hx (by simp)).trans (.of_sheets (raise_unchanged _ _).sheets)
      · exact noneRetires_setSheet hx id

theorem endFill_noneRetires (e : Entry) (s : State) : NoneRetires s (endFill e s) := by
  unfold endFill
  split
  · exact .refl s
  · rename_i x hx
    split
    · exact noneRetires_setSheet hx (by simp)
    · exact .refl s

theorem testSheetReady_noneRetires (n : Nat) (s : State) : NoneRetires s (testSheetReady n s) := by
  unfold testSheetReady
  split
  · exact .refl s
  · rename_i x hx
    split
    · exact .refl s
    · split
      · exact (noneRetires_setSheet hx (by simp)).trans (.of_sheets (reply_unchanged _ _ _ _ _).sheets)
      · exact .refl s

theorem rowEnded_unchanged (e : Entry) (s : State) : Unchanged [.sheets, .notices, .links] s (rowEnded e s) := by
  unfold rowEnded
  split
  · exact raiseWritten_unchanged e.sheet s
  · exact .refl _ s

theorem rowEnded_noneRetires (e : Entry) (s : State) : NoneRetires s (rowEnded e s) := by
  unfold rowEnded
  split
  · exact raiseWritten_noneRetires e.sheet s
  · exact .refl s

set_option Elab.async false in
theorem rowEnded_other {m : Nat} (h : m ≠ e.sheet) (s : State) : sheetAt (rowEnded e s) m = sheetAt s m := by
  unfold rowEnded
  split
  · exact raiseWritten_other h s
  · rfl

/-- What follows the entry's leaving the queue changes the sheets, the notices and the links alone. -/
theorem progress_unchanged (e : Entry) (s : State) :
    Unchanged [.sheets, .notices, .links] s (testSheetReady e.sheet (endFill e (rowEnded e s))) :=
  ((rowEnded_unchanged e s).andThen (endFill_unchanged e _)).andThen (testSheetReady_unchanged e.sheet _)

theorem rowEnded_pending (e : Entry) (s : State) :
    (rowEnded e s).notices.pending.getLsbD 9 = s.notices.pending.getLsbD 9 := by
  unfold rowEnded raiseWritten
  dsimp only
  split
  · split
    · rfl
    · split
      · rfl
      · split
        · rw [raise_notices, BitVec.getLsbD_or, show srcSheetComplete.getLsbD 9 = false by decide, Bool.or_false]
          rfl
        · rfl
  · rfl

theorem progress_pending (e : Entry) (s : State) :
    (testSheetReady e.sheet (endFill e (rowEnded e s))).notices.pending.getLsbD 9 = s.notices.pending.getLsbD 9 := by
  rw [(testSheetReady_unchanged _ _).notices, (endFill_unchanged _ _).notices, rowEnded_pending]

theorem retireHead_noneRetires (s : State) : NoneRetires s (retireHead s) := by
  cases h : s.drain.queue with
  | nil => simp only [retireHead, h]; exact .refl s
  | cons e rest =>
    rw [retireHead_of_queue h]
    exact (((NoneRetires.of_sheets (headTaken_sends_nothing rest s).sheets).trans (rowEnded_noneRetires e _)).trans
      (endFill_noneRetires e _)).trans (testSheetReady_noneRetires e.sheet _)

theorem retireHead_sched (s : State) :
    (retireHead s).sched.deadline = s.sched.deadline ∧ (retireHead s).sched.refreshing = s.sched.refreshing := by
  cases h : s.drain.queue with
  | nil => simp only [retireHead, h, and_self]
  | cons e rest =>
    rw [retireHead_of_queue h, (progress_unchanged e _).sched, headTaken, judgeBaseMode_sched]
    exact ⟨rfl, rfl⟩

theorem retireHead_drain (h : s.drain.queue = e :: rest) : (retireHead s).drain = { s.drain with queue := rest } := by
  rw [retireHead_of_queue h, (progress_unchanged e _).drain, headTaken_drain]

theorem retireHead_counter (h : s.drain.queue = e :: rest) :
    (retireHead s).counters[cntDrainWritten]'cntDrainWritten.2 = s.counters[cntDrainWritten]'cntDrainWritten.2 + 1 := by
  rw [retireHead_of_queue h, (progress_unchanged e _).counters, headTaken_counter]

theorem retireHead_judged (h : s.drain.queue = e :: rest) : BaseModeJudged s (retireHead s) := by
  rw [retireHead_of_queue h]
  have after := progress_unchanged e (headTaken rest s)
  exact (headTaken_judged rest s).kept after.drain (by rw [after.sched]) (progress_pending e _) (by rw [after.counters])

theorem retireHead_other (h : s.drain.queue = e :: rest) {m : Nat} (hm : m ≠ e.sheet) :
    sheetAt (retireHead s) m = sheetAt s m := by
  rw [retireHead_of_queue h, testSheetReady_other hm, endFill_other hm, rowEnded_other hm, sheetAt,
    (headTaken_sends_nothing rest s).sheets, sheetAt]

/-- The sheet of the entry as the progress of R43 finds it. -/
theorem sheetAt_headTaken (rest : List Entry) (s : State) (m : Nat) : sheetAt (headTaken rest s) m = sheetAt s m := by
  rw [sheetAt, (headTaken_sends_nothing rest s).sheets, sheetAt]

theorem retireHead_row {r : Relief} (h : s.drain.queue = e :: rest) (hx : sheetAt s e.sheet = some x)
    (hk : x.kind = .relief r) (hs : x.state = .scanning) (waits : x.readyWaiting = none) {y : Nat}
    (ends : e.endOfRow = some y) (sweep : e.kind = .sweep) :
    (r.written + 1 ≠ x.geom.height →
      sheetAt (retireHead s) e.sheet = some { x with kind := .relief { r with written := r.written + 1 } })
    ∧ (r.written + 1 = x.geom.height → sheetAt (retireHead s) e.sheet =
        some { x with state := .ready, kind := .relief { r with written := r.written + 1 } }
      ∧ (retireHead s).notices.pending.getLsbD 0 = true) := by
  have found : sheetAt (headTaken rest s) e.sheet = some x := (sheetAt_headTaken ..).trans hx
  have ended : rowEnded e (headTaken rest s) = raiseWritten e.sheet (headTaken rest s) := by simp [rowEnded, ends]
  rw [retireHead_of_queue h, endFill_not_fill (by simp [sweep]), ended]
  refine ⟨fun more => ?_, fun last => ?_⟩
  · have here := sheetAt_setSheet_same (some { x with kind := .relief { r with written := r.written + 1 } }) found
    rw [raiseWritten_more found hk more, testSheetReady_not_waiting here (by exact waits), here]
  · have here := sheetAt_setSheet_same
      (some { x with state := .ready, kind := .relief { r with written := r.written + 1 } }) found
    rw [raiseWritten_last found hk hs last]
    have kept := raise_unchanged srcSheetComplete
      (setSheet e.sheet (some { x with state := .ready, kind := .relief { r with written := r.written + 1 } }) (headTaken rest s))
    have there := (sheetAt_congr kept.sheets _).trans here
    rw [testSheetReady_not_waiting there (by exact waits), there, raise_notices, BitVec.getLsbD_or]
    exact ⟨rfl, Bool.or_eq_true_iff.mpr (.inr (by decide))⟩

/-- A waiting SHEET_READY whose test holds (R16). -/
theorem testSheetReady_answers {tag : Tag} (hx : sheetAt s n = some x) (waits : x.readyWaiting = some tag)
    (test : ReadyTest x n s) :
    sheetAt (testSheetReady n s) n = some { x with state := .ready, readyWaiting := none }
    ∧ (portUp s .c = true →
        (linkOf (testSheetReady n s) .c).toSend = (linkOf s .c).toSend ++ [.cellReply tag 5 .done .empty]) := by
  set y : Sheet := { x with state := .ready, readyWaiting := none } with hy
  rw [testSheetReady_passes hx waits test]
  refine ⟨?_, fun up => ?_⟩
  · rw [sheetAt_congr (answerRequest_unchanged _ _ _).sheets, sheetAt_setSheet_same _ hx]
  · exact toSend_answerRequest (s := setSheet n (some y) s) _
      (by rwa [portUp_congr _ (setSheet_unchanged n (some y) s).links])

set_option Elab.async false in
theorem rowEnded_none (h : e.endOfRow = none) (s : State) : rowEnded e s = s := by simp [rowEnded, h]

/-- The test of R16 once the head entry has left. -/
def ReadyOnceTaken (e : Entry) (rest : List Entry) (s : State) : Prop :=
  (∀ j ∈ s.drain.jobs, j.sheetOf ≠ e.sheet) ∧ ∀ e' ∈ rest, e'.sheet ≠ e.sheet

theorem retireHead_ready {tag : Tag} (h : s.drain.queue = e :: rest) (hx : sheetAt s e.sheet = some x)
    (hs : x.state = .loading) (waits : x.readyWaiting = some tag) (ends : e.endOfRow = none)
    (test : ReadyOnceTaken e rest s) :
    sheetAt (retireHead s) e.sheet = some { x with state := .ready, readyWaiting := none }
    ∧ (portUp s .c = true →
        (linkOf (retireHead s) .c).toSend = (linkOf s .c).toSend ++ [.cellReply tag 5 .done .empty]) := by
  have found : sheetAt (headTaken rest s) e.sheet = some x := (sheetAt_headTaken ..).trans hx
  have links := (headTaken_sends_nothing rest s).links
  have drain := headTaken_drain rest s
  have passes : ReadyTest x e.sheet (headTaken rest s) := ⟨hs, by rw [drain]; exact test.1, by rw [drain]; exact test.2⟩
  rw [retireHead_of_queue h, rowEnded_none ends, endFill_not_filling found (by simp [hs]), ← portUp_congr _ links,
    ← linkOf_congr .c links]
  exact testSheetReady_answers found waits passes

theorem retireHead_fill (h : s.drain.queue = e :: rest) (hx : sheetAt s e.sheet = some x) (hs : x.state = .filling)
    (waits : x.readyWaiting = none) (fill : e.kind = .fill) (ends : e.endOfRow = none) :
    sheetAt (retireHead s) e.sheet = some { x with
      state := if e.tile + 1 = x.geom.base + extentOf x.geom ∧ e.word = 255 then .loading else .filling } := by
  have found : sheetAt (headTaken rest s) e.sheet = some x := (sheetAt_headTaken ..).trans hx
  have filled := endFill_filling found hs fill
  rw [retireHead_of_queue h, rowEnded_none ends, testSheetReady_not_waiting filled (by exact waits), filled]

theorem retireHead_last_fill {tag : Tag} (h : s.drain.queue = e :: rest) (hx : sheetAt s e.sheet = some x)
    (hs : x.state = .filling) (waits : x.readyWaiting = some tag) (fill : e.kind = .fill) (ends : e.endOfRow = none)
    (last : e.tile + 1 = x.geom.base + extentOf x.geom ∧ e.word = 255) :
    (ReadyOnceTaken e rest s →
      sheetAt (retireHead s) e.sheet = some { x with state := .ready, readyWaiting := none }
      ∧ (portUp s .c = true →
          (linkOf (retireHead s) .c).toSend = (linkOf s .c).toSend ++ [.cellReply tag 5 .done .empty]))
    ∧ (¬ ReadyOnceTaken e rest s →
      sheetAt (retireHead s) e.sheet = some { x with state := .loading } ∧ (retireHead s).links = s.links) := by
  have found : sheetAt (headTaken rest s) e.sheet = some x := (sheetAt_headTaken ..).trans hx
  have filled := endFill_filling found hs fill
  rw [if_pos last] at filled
  have links : (endFill e (headTaken rest s)).links = s.links :=
    (endFill_unchanged e _).links.trans (headTaken_sends_nothing rest s).links
  have drain : (endFill e (headTaken rest s)).drain = { s.drain with queue := rest } :=
    (endFill_unchanged e _).drain.trans (headTaken_drain rest s)
  rw [retireHead_of_queue h, rowEnded_none ends]
  refine ⟨fun test => ?_, fun no => ?_⟩
  · rw [← portUp_congr _ links, ← linkOf_congr .c links]
    exact testSheetReady_answers (x := { x with state := .loading }) filled waits ⟨rfl, by rw [drain]; exact test.1, by rw [drain]; exact test.2⟩
  · have waiting : ¬ ReadyTest { x with state := .loading } e.sheet (endFill e (headTaken rest s)) :=
      fun ⟨_, jobs, entries⟩ => no ⟨by rwa [drain] at jobs, by rwa [drain] at entries⟩
    rw [testSheetReady_waits filled waits waiting]
    exact ⟨filled, links⟩

end Retiring

/-! ### A WRITE's completion (R43, R132) -/

section Write

variable {s : State} {tile word : Nat} {codes : CellWord} {sheet : Option Nat} {d a : Bool}

/-- The word stored, the port free and the bank settled. -/
def stored (o : InFlight) (tile word : Nat) (codes : CellWord) (s : State) : State :=
  settleBank o (bankOf tile) ((setInFlight none s).setMem (storeWord (wordAddress tile word) codes s.mem))

/-- What the WRITE does to its entry, unless the owner has left. -/
def entryRetired (o : InFlight) (s : State) : State := if o.discard then s else retireHead s

theorem stored_unchanged (o : InFlight) (tile word : Nat) (codes : CellWord) (s : State) :
    Unchanged [.port, .mem] s (stored o tile word codes s) :=
  (((setInFlight_unchanged none s).mono (by decide)).andThen (setMem_unchanged _ _)).andThen (settleBank_unchanged _ _ _)

theorem entryRetired_unchanged (o : InFlight) (s : State) :
    Unchanged [.drain, .sheets, .sched, .counters, .notices, .links] s (entryRetired o s) := by
  unfold entryRetired
  split
  · exact .refl _ s
  · exact retireHead_unchanged s

theorem execWriteComplete_outside (hr : s.resetAsserted = false)
    (flying : s.port.inFlight = some ⟨.write tile word codes, sheet, d, a⟩) (outside : 131072 ≤ tile) :
    exec .writeComplete s = .fault .noSuchWord :=
  (completing_of hr flying rfl).trans (if_pos outside)

theorem execWriteComplete_inside (hr : s.resetAsserted = false)
    (flying : s.port.inFlight = some ⟨.write tile word codes, sheet, d, a⟩) (inside : tile < 131072) :
    exec .writeComplete s = .next (completeWrite ⟨.write tile word codes, sheet, d, a⟩ tile word codes s) :=
  (completing_of hr flying rfl).trans (if_neg (Nat.not_le.mpr inside))

/-- The end of a WRITE: the port free, its bank settled and the others as they were, each judged, then the choice. -/
theorem write_ends (o : InFlight) (tile word : Nat) (codes : CellWord) (s : State) :
    ∃ u, ChosenFrom s u (completeWrite o tile word codes s) ∧ u.port.owed = s.port.owed
      ∧ Unchanged [.sheets, .links, .port] (entryRetired o (stored o tile word codes s)) u
      ∧ BankJudged u (bankOf tile) (restartedBank s o.afterReset (s.port.banks[bankOf tile]'(bankOf tile).2))
      ∧ ∀ b : Fin 8, b ≠ bankOf tile → BankJudged u b (s.port.banks[b]'b.2) := by
  set w := stored o tile word codes s with hw
  have port : (entryRetired o w).port = w.port := (entryRetired_unchanged o w).port
  obtain ⟨state, idle, owed, left⟩ :=
    samePort_settleBank o (bankOf tile) ((setInFlight none s).setMem (storeWord (wordAddress tile word) codes s.mem))
  have bank (b : Fin 8) : w.port.banks[b]'b.2
      = if bankOf tile = b then restartedBank s o.afterReset (s.port.banks[bankOf tile]'(bankOf tile).2) else s.port.banks[b]'b.2 :=
    settleBank_bank ..
  have judged := bankJudged_completed o (entryRetired o w)
  rw [port] at judged
  refine ⟨completed o (entryRetired o w), chosenFrom_completed ?_ ?_ ?_, ?_, completed_unchanged o _, ?_, fun b other => ?_⟩
  · rw [port]; exact idle
  · rw [port]; exact state
  · rw [port]; exact left
  · rw [(samePort_completed o _).2.2.1, port]; exact owed
  · have here := judged (bankOf tile)
    rwa [bank, if_pos rfl] at here
  · have there := judged b
    rwa [bank, if_neg (fun e => other e.symm)] at there

theorem entryRetired_noneRetires (o : InFlight) (s : State) : NoneRetires s (entryRetired o s) := by
  unfold entryRetired
  split
  · exact .refl s
  · exact retireHead_noneRetires s

theorem entryRetired_sched (o : InFlight) (s : State) :
    (entryRetired o s).sched.deadline = s.sched.deadline ∧ (entryRetired o s).sched.refreshing = s.sched.refreshing := by
  unfold entryRetired
  split
  · exact ⟨rfl, rfl⟩
  · exact retireHead_sched s

/-- The choice at the end moves none of the counters of the drain. -/
theorem completeWrite_counter (o : InFlight) (tile word : Nat) (codes : CellWord) (s : State) :
    (completeWrite o tile word codes s).counters[cntDrainWritten]
      = (entryRetired o (stored o tile word codes s)).counters[cntDrainWritten]'cntDrainWritten.2 := by
  obtain ⟨u, ⟨chosen, -⟩, -, kept, -⟩ := write_ends o tile word codes s
  rw [chosen, choose_counters _ (by decide), kept.counters]

/-- A WRITE whose sheet is live ends as its entry's retirement leaves it. -/
theorem completeWrite_live {o : InFlight} (live : SheetLive o s) :
    Unchanged [.port, .sched, .queries, .window, .counters] (entryRetired o (stored o tile word codes s))
        (completeWrite o tile word codes s)
      ∧ BaseModeKept (entryRetired o (stored o tile word codes s)) (completeWrite o tile word codes s) := by
  set v := entryRetired o (stored o tile word codes s)
  have still : SheetLive o v := fun n y hn hy hr => by
    obtain ⟨x, hx, hr'⟩ := entryRetired_noneRetires o _ n y hy hr
    exact live n x hn ((sheetAt_congr (stored_unchanged o tile word codes s).sheets n).symm.trans hx) hr'
  have port := completed_live still
  exact ⟨(port.mono (by simp)).andThen (choose_unchanged _), port.baseModeKept.trans (choose_baseModeKept _)⟩

/-- The entry's part of a WRITE whose owner is there: what the retirement `v` of the entry from `w` does stands in the next
state. -/
structure EntryRetired (s t w : State) (e : Entry) (rest : List Entry) : Prop where
  before : Unchanged [.port, .mem] s w
  queue : w.drain.queue = e :: rest
  after : Unchanged [.port, .sched, .queries, .window, .counters] (retireHead w) t
  judged : BaseModeJudged s t
  counted : t.counters[cntDrainWritten]'cntDrainWritten.2 = s.counters[cntDrainWritten]'cntDrainWritten.2 + 1

theorem completeWrite_retires {o : InFlight} {e : Entry} {rest : List Entry} (live : SheetLive o s) (owned : o.discard = false)
    (hq : s.drain.queue = e :: rest) :
    EntryRetired s (completeWrite o tile word codes s) (stored o tile word codes s) e rest := by
  have same := stored_unchanged o tile word codes s
  have queue : (stored o tile word codes s).drain.queue = e :: rest := by rw [same.drain, hq]
  have retired : entryRetired o (stored o tile word codes s) = retireHead (stored o tile word codes s) := by
    simp [entryRetired, owned]
  obtain ⟨after, mode, counter⟩ := completeWrite_live (tile := tile) (word := word) (codes := codes) live
  rw [retired] at after mode counter
  refine ⟨same, queue, after, ?_, ?_⟩
  · exact ((retireHead_judged queue).of_unchanged same).kept after.drain mode (by rw [after.notices]) counter
  · rw [completeWrite_counter, retired, retireHead_counter queue, same.counters]

namespace EntryRetired

variable {t w : State} {e : Entry} {rest : List Entry} {x : Sheet}

theorem sheetIs (h : EntryRetired s t w e rest) {y : Option Sheet} {n : Nat} (hy : sheetAt (retireHead w) n = y) :
    sheetAt t n = y := (sheetAt_congr h.after.sheets n).trans hy

set_option Elab.async false in
theorem found (h : EntryRetired s t w e rest) (hx : sheetAt s e.sheet = some x) : sheetAt w e.sheet = some x :=
  (sheetAt_congr h.before.sheets _).trans hx

theorem drain (h : EntryRetired s t w e rest) : t.drain = { s.drain with queue := rest } := by
  rw [h.after.drain, retireHead_drain h.queue, h.before.drain]

theorem other (h : EntryRetired s t w e rest) {n : Nat} (hn : n ≠ e.sheet) : sheetAt t n = sheetAt s n :=
  h.sheetIs ((retireHead_other h.queue hn).trans (sheetAt_congr h.before.sheets n))

theorem row {r : Relief} {y : Nat} (h : EntryRetired s t w e rest) (hx : sheetAt s e.sheet = some x)
    (hk : x.kind = .relief r) (hs : x.state = .scanning) (waits : x.readyWaiting = none) (ends : e.endOfRow = some y)
    (sweep : e.kind = .sweep) :
    (r.written + 1 < x.geom.height →
      sheetAt t e.sheet = some { x with kind := .relief { r with written := r.written + 1 } })
    ∧ (r.written + 1 = x.geom.height → sheetAt t e.sheet =
        some { x with state := .ready, kind := .relief { r with written := r.written + 1 } }
      ∧ t.notices.pending.getLsbD 0 = true) := by
  obtain ⟨more, last⟩ := retireHead_row h.queue (h.found hx) hk hs waits ends sweep
  refine ⟨fun below => h.sheetIs (more below.ne), fun top => ?_⟩
  obtain ⟨ready, complete⟩ := last top
  exact ⟨h.sheetIs ready, by rw [h.after.notices, complete]⟩

theorem fill (h : EntryRetired s t w e rest) (hx : sheetAt s e.sheet = some x) (hs : x.state = .filling)
    (waits : x.readyWaiting = none) (fill : e.kind = .fill) (ends : e.endOfRow = none) :
    sheetAt t e.sheet = some { x with
      state := if e.tile + 1 = x.geom.base + extentOf x.geom ∧ e.word = 255 then .loading else .filling } :=
  h.sheetIs (retireHead_fill h.queue (h.found hx) hs waits fill ends)

/-- The answer of a waiting SHEET_READY, in the next state. -/
theorem answered {y : Sheet} {tag : Tag} (h : EntryRetired s t w e rest)
    (hy : sheetAt (retireHead w) e.sheet = some y
      ∧ (portUp w .c = true →
          (linkOf (retireHead w) .c).toSend = (linkOf w .c).toSend ++ [.cellReply tag 5 .done .empty])) :
    sheetAt t e.sheet = some y
      ∧ (portUp s .c = true → (linkOf t .c).toSend = (linkOf s .c).toSend ++ [.cellReply tag 5 .done .empty]) := by
  obtain ⟨sheet, sent⟩ := hy
  rw [portUp_congr .c h.before.links, linkOf_congr .c h.before.links] at sent
  rw [linkOf_congr .c h.after.links]
  exact ⟨h.sheetIs sheet, sent⟩

theorem ready {tag : Tag} (h : EntryRetired s t w e rest) (hx : sheetAt s e.sheet = some x) (hs : x.state = .loading)
    (waits : x.readyWaiting = some tag) (ends : e.endOfRow = none) (test : ReadyOnceTaken e rest s) :
    sheetAt t e.sheet = some { x with state := .ready, readyWaiting := none }
    ∧ (portUp s .c = true → (linkOf t .c).toSend = (linkOf s .c).toSend ++ [.cellReply tag 5 .done .empty]) :=
  h.answered (retireHead_ready h.queue (h.found hx) hs waits ends
    ⟨by rw [h.before.drain]; exact test.1, test.2⟩)

theorem last_fill {tag : Tag} (h : EntryRetired s t w e rest) (hx : sheetAt s e.sheet = some x) (hs : x.state = .filling)
    (waits : x.readyWaiting = some tag) (fill : e.kind = .fill) (ends : e.endOfRow = none)
    (last : e.tile + 1 = x.geom.base + extentOf x.geom ∧ e.word = 255) :
    (ReadyOnceTaken e rest s →
      sheetAt t e.sheet = some { x with state := .ready, readyWaiting := none }
      ∧ (portUp s .c = true → (linkOf t .c).toSend = (linkOf s .c).toSend ++ [.cellReply tag 5 .done .empty]))
    ∧ (¬ ReadyOnceTaken e rest s → sheetAt t e.sheet = some { x with state := .loading } ∧ t.links = s.links) := by
  have same : ReadyOnceTaken e rest w ↔ ReadyOnceTaken e rest s := by rw [ReadyOnceTaken, h.before.drain, ReadyOnceTaken]
  obtain ⟨passes, waits⟩ := retireHead_last_fill h.queue (h.found hx) hs waits fill ends last
  rw [same] at passes waits
  refine ⟨fun test => h.answered (passes test), fun no => ?_⟩
  obtain ⟨loading, links⟩ := waits no
  exact ⟨h.sheetIs loading, h.after.links.trans (links.trans h.before.links)⟩

end EntryRetired

end Write

/-- The parts of a WRITE's completion that hold whether or not its owner is there. -/
theorem write_stores {s t : State} {tile word : Nat} {codes : CellWord} (wf : s.mem.wf = true)
    (mem : t.mem = storeWord (wordAddress tile word) codes s.mem) :
    (∀ p, storedWord t.mem p (wordAddress tile word) = codes)
    ∧ wordWritten t.mem (wordAddress tile word) = true ∧ lookupWrong t.mem.wrong (wordAddress tile word) = 0
    ∧ ∀ p x, x ≠ wordAddress tile word → storedWord t.mem p x = storedWord s.mem p x
        ∧ lookupWrong t.mem.wrong x = lookupWrong s.mem.wrong x := by
  rw [mem]
  exact ⟨fun p => storedWord_storeWord_same, wordWritten_storeWord, lookupWrong_storeWord_same wf,
    fun p x h => ⟨storedWord_storeWord_other h, lookupWrong_storeWord_other h⟩⟩

set_option Elab.async false in
/-- Settles O53. -/
theorem writeCompletionStoresTheWordAndRetiresItsEntry : Obligations.WriteCompletionStoresTheWordAndRetiresItsEntry := by
  unfold Obligations.WriteCompletionStoresTheWordAndRetiresItsEntry
  refine ⟨fun s tile word codes sheet d a hr flying outside => execWriteComplete_outside hr flying outside,
    fun s tile word codes sheet d a hr flying inside wf live => ?_,
    fun s tile word codes n x a hr flying inside hx hs => ?_⟩
  · set o : InFlight := ⟨.write tile word codes, sheet, d, a⟩ with ho
    have live : SheetLive o s := live
    have mem := completeWrite_mem o tile word codes s
    have taken : exec .writeComplete s = .next (completeWrite o tile word codes s) :=
      execWriteComplete_inside hr flying inside
    have ends (e : Entry) (rest : List Entry) (owned : o.discard = false) (hq : s.drain.queue = e :: rest) :=
      completeWrite_retires (tile := tile) (word := word) (codes := codes) live owned hq
    have counter := completeWrite_counter o tile word codes s
    obtain ⟨after, -⟩ := completeWrite_live (tile := tile) (word := word) (codes := codes) live
    obtain ⟨u, chosen, owed, kept, here, there⟩ := write_ends o tile word codes s
    obtain ⟨t, ht⟩ : ∃ t, completeWrite o tile word codes s = t := ⟨_, rfl⟩
    rw [ht] at mem taken counter after chosen
    simp only [ht] at ends
    obtain ⟨data, written, right, others⟩ := write_stores wf mem
    have same := stored_unchanged o tile word codes s
    have retired := entryRetired_unchanged o (stored o tile word codes s)
    obtain ⟨deadline, refreshing⟩ := entryRetired_sched o (stored o tile word codes s)
    refine ⟨t, taken, data, written, right, others, ⟨u, chosen, owed, ?_, ?_, ?_, ?_, here, there⟩, fun lost => ?_, fun e rest owned hq => ?_⟩
    · rw [kept.queries, retired.queries, same.queries]
    · rw [kept.window, retired.window, same.window]
    · rw [kept.sched, deadline, same.sched]
    · rw [kept.sched, refreshing, same.sched]
    · have nothing : entryRetired o (stored o tile word codes s) = stored o tile word codes s := if_pos lost
      rw [nothing] at after counter
      refine ⟨after.drain.trans same.drain, after.sheets.trans same.sheets, after.notices.trans same.notices, ?_⟩
      rw [counter, same.counters]
    · have ends := ends e rest owned hq
      refine ⟨by rw [ends.drain], by rw [ends.drain], ends.counted, ends.judged, fun n hn => ends.other hn,
        fun x r y hx hk hs waits row sweep => ends.row hx hk hs waits row sweep,
        fun x f hx _ hs waits fill row => ends.fill hx hs waits fill row,
        fun x tag hx hs waits row jobs entries => ends.ready hx hs waits row ⟨jobs, entries⟩,
        fun x f tag hx _ hs waits fill row tile word => ?_⟩
      obtain ⟨passes, waits⟩ := ends.last_fill hx hs waits fill row ⟨tile, word⟩
      split
      · exact passes ‹_›
      · exact waits ‹_›
  · set o : InFlight := ⟨.write tile word codes, some n, true, a⟩ with ho
    set w := stored o tile word codes s with hw
    have same : Unchanged [.port, .mem] s w := stored_unchanged o tile word codes s
    have lost : entryRetired o w = w := if_pos rfl
    obtain ⟨u, chosen, owed, kept, here, there⟩ := write_ends o tile word codes s
    obtain ⟨freed, sent⟩ := retireAfter_retiring (o := o) (s := w) rfl ((sheetAt_congr same.sheets n).trans hx) hs
    have ended : completeWrite o tile word codes s = choose (judgeBanks (retireAfter o w)) := by
      rw [← lost]; rfl
    have after : Unchanged [.port, .sched, .queries, .window, .counters] (retireAfter o w) (completeWrite o tile word codes s) := by
      rw [ended]
      exact ((judgeBanks_unchanged _).mono (by decide)).andThen (choose_unchanged _)
    have whole : Unchanged [.sheets, .links] w (retireAfter o w) := retireAfter_unchanged o w
    have mem := completeWrite_mem o tile word codes s
    have taken : exec .writeComplete s = .next (completeWrite o tile word codes s) :=
      execWriteComplete_inside hr flying inside
    have counter := completeWrite_counter o tile word codes s
    obtain ⟨t, ht⟩ : ∃ t, completeWrite o tile word codes s = t := ⟨_, rfl⟩
    rw [ht] at mem taken counter after chosen
    refine ⟨t, taken, ?_, fun m other => ?_, fun p => ?_, ?_, ?_, ?_,
      fun tag waits up => ?_, u, chosen, owed, ?_, ?_, here, there⟩
    · rw [sheetAt_congr after.sheets, freed, if_pos rfl]
    · rw [sheetAt_congr after.sheets, freed, if_neg other, sheetAt_congr same.sheets]
    · rw [mem]
      exact storedWord_storeWord_same
    · rw [after.drain, whole.drain, same.drain]
    · rw [after.notices, whole.notices, same.notices]
    · rw [counter, ← hw, lost, same.counters]
    · have out := sent tag waits (by rwa [portUp_congr .c same.links])
      rwa [← linkOf_congr .c after.links, linkOf_congr .c same.links] at out
    · rw [kept.queries, ← hw, lost, same.queries]
    · rw [kept.window, ← hw, lost, same.window]

end Sys2Proof.Machine
end

section
/-! SUPPORT. The window reader (section 8.4): codes placed and chunks sent as one list of records on Port C, VOID codes placed
up to the next chunk or the end, and what a choice does to the window. -/

namespace Sys2Proof.Machine

/- A proof is elaborated in a task of its own. `set_option Elab.async false in` before a theorem makes the compile wait there
for the proofs before it, so that only a few are under way at a time; the linters, which would keep every proof's syntax
tree, are off, so that the compile of the whole text stays within its memory. -/
set_option linter.all false

open Sys2Proof

/-! ### Records sent on Port C, with the window as it then stands -/

section Sent

variable {s : State} {rs rs' : List OutRecord} {v v' : Option WindowRead} {w : WindowRead} {c : Code}

/-- `s` with the records `rs` sent on Port C, which is UP, and the window `v`. -/
def sentC (rs : List OutRecord) (v : Option WindowRead) (s : State) : State :=
  (setLink .c { linkOf s .c with toSend := (linkOf s .c).toSend ++ rs } s).setWindow v

theorem linkOf_sentC (rs : List OutRecord) (v : Option WindowRead) (s : State) :
    linkOf (sentC rs v s) .c = { linkOf s .c with toSend := (linkOf s .c).toSend ++ rs } :=
  linkOf_setLink_same .c _ s

theorem linkOf_sentC_other (rs : List OutRecord) (v : Option WindowRead) (s : State) {p : Port} (h : p ≠ .c) :
    linkOf (sentC rs v s) p = linkOf s p := linkOf_setLink_other _ h

theorem portUp_sentC (rs : List OutRecord) (v : Option WindowRead) (s : State) : portUp (sentC rs v s) .c = portUp s .c := by
  rw [portUp, linkOf_sentC]
  rfl

theorem setWindow_sentC : (sentC rs v s).setWindow v' = sentC rs v' s := rfl

theorem setLink_setWindow_setLink (p : Port) (l l' : Link) (v : Option WindowRead) (s : State) :
    setLink p l' ((setLink p l s).setWindow v) = (setLink p l' s).setWindow v := by
  have links : (s.links.set (portIndex p) l).set (portIndex p) l' = s.links.set (portIndex p) l' := Vector.set_set ..
  exact congrArg (fun x => (s.setLinks x).setWindow v) links

theorem sentC_sentC : sentC rs' v' (sentC rs v s) = sentC (rs ++ rs') v' s := by
  rw [sentC, linkOf_sentC, sentC, setLink_setWindow_setLink, sentC, List.append_assoc]
  rfl

theorem setLink_self (p : Port) (s : State) : setLink p (linkOf s p) s = s := by
  have links : s.links.set (portIndex p) (s.links[portIndex p]'(portIndex p).2) = s.links := Vector.set_getElem_self _
  exact congrArg (fun x => s.setLinks x) links

theorem sentC_nil (h : s.window = v) : sentC [] v s = s := by
  have same : ({ linkOf s .c with toSend := (linkOf s .c).toSend ++ [] } : Link) = linkOf s .c := by rw [List.append_nil]
  rw [sentC, same, setLink_self, ← h]
  rfl

set_option Elab.async false in
theorem send_eq_sentC (r : OutRecord) (h : portUp s .c = true) : send .c r s = sentC [r] s.window s := send_up r h

theorem sendChunk_sent (up : portUp s .c = true) (h : s.window = some w) :
    sendChunk s = sentC [.windowChunk w.tag w.nextIndex w.chunk]
      (some { w with chunk := [], hold := 0, nextIndex := w.nextIndex + 1, waiting := w.waiting + 1 }) s := by
  simp only [sendChunk, h, up, if_true, send_eq_sentC _ up]
  rfl

theorem endWindow_empty (up : portUp s .c = true) (h : s.window = some w) (hc : w.chunk = []) :
    endWindow s = sentC [.cellReply w.tag 9 .done (.total (w.width * w.height))] none s := by
  simp only [endWindow, h, hc, List.isEmpty_nil, if_true]
  rw [reply, send_eq_sentC _ up]
  rfl

theorem endWindow_open (up : portUp s .c = true) (h : s.window = some w) (hc : w.chunk ≠ []) :
    endWindow s = sentC [.windowChunk w.tag w.nextIndex w.chunk, .cellReply w.tag 9 .done (.total (w.width * w.height))] none s := by
  have filled : w.chunk.isEmpty = false := by simpa using hc
  simp only [endWindow, h, filled, Bool.false_eq_true, if_false, sendChunk_sent up h]
  rw [reply, send_eq_sentC _ ((portUp_sentC _ _ _).trans up), setWindow_sentC, sentC_sentC]
  rfl

/-! ### One code placed (R155, R157) -/

/-- The cap of the open chunk: the setting where it has no sample yet. -/
def capOf (chunkCap : Nat) (w : WindowRead) : Nat := if w.chunk = [] then chunkCap else w.cap

/-- The window with codes in its open chunk. -/
def withCodes (chunkCap : Nat) (cs : List Code) (w : WindowRead) : WindowRead :=
  { w with chunk := w.chunk ++ cs, cap := capOf chunkCap w, placed := w.placed + cs.length }

/-- The window once its open chunk has gone out. -/
def chunkOut (w : WindowRead) : WindowRead :=
  { w with chunk := [], hold := 0, nextIndex := w.nextIndex + 1, waiting := w.waiting + 1 }

/-- The record of the open chunk, and the answer at the end of the window. -/
def chunkRecord (w : WindowRead) : OutRecord := .windowChunk w.tag w.nextIndex w.chunk

def totalReply (w : WindowRead) : OutRecord := .cellReply w.tag 9 .done (.total (w.width * w.height))

theorem placeCode_eq (h : s.window = some w) (c : Code) : placeCode c s =
    let w' := withCodes s.settings.chunkCap [c] w
    let s' := s.setWindow (some w')
    let s' := if w'.cap ≤ w'.chunk.length then sendChunk s' else s'
    if w'.placed = w'.width * w'.height then endWindow s' else s' := by
  have cap : (if w.chunk.isEmpty = true then s.settings.chunkCap else w.cap) = capOf s.settings.chunkCap w := by
    simp [capOf, List.isEmpty_iff]
  simp only [placeCode, h, cap]
  rfl

/-- A code that neither fills the chunk nor completes the window. -/
theorem placeCode_joins (h : s.window = some w) (room : w.chunk.length + 1 < capOf s.settings.chunkCap w)
    (more : w.placed + 1 ≠ w.width * w.height) :
    placeCode c s = s.setWindow (some (withCodes s.settings.chunkCap [c] w)) := by
  have open_ : ¬ (withCodes s.settings.chunkCap [c] w).cap ≤ (withCodes s.settings.chunkCap [c] w).chunk.length := by
    simpa [withCodes] using room
  rw [placeCode_eq h]
  simp only [if_neg open_]
  exact if_neg more

/-- A code that fills the chunk. -/
theorem placeCode_fills (up : portUp s .c = true) (h : s.window = some w)
    (full : capOf s.settings.chunkCap w ≤ w.chunk.length + 1) (more : w.placed + 1 ≠ w.width * w.height) :
    placeCode c s = sentC [chunkRecord (withCodes s.settings.chunkCap [c] w)]
      (some (chunkOut (withCodes s.settings.chunkCap [c] w))) s := by
  have filled : (withCodes s.settings.chunkCap [c] w).cap ≤ (withCodes s.settings.chunkCap [c] w).chunk.length := by
    simpa [withCodes] using full
  rw [placeCode_eq h]
  simp only [if_pos filled]
  refine (if_neg more).trans ?_
  exact sendChunk_sent (s := s.setWindow (some (withCodes s.settings.chunkCap [c] w))) up rfl

/-- The code that completes the window. -/
theorem placeCode_ends (up : portUp s .c = true) (h : s.window = some w) (last : w.placed + 1 = w.width * w.height) :
    placeCode c s = sentC [chunkRecord (withCodes s.settings.chunkCap [c] w), totalReply w] none s := by
  set w' := withCodes s.settings.chunkCap [c] w with hw'
  have last' : w'.placed = w'.width * w'.height := last
  have up' : portUp (s.setWindow (some w')) .c = true := up
  rw [placeCode_eq h]
  simp only [← hw', if_pos last']
  split
  · rw [sendChunk_sent up' rfl, endWindow_empty ((portUp_sentC _ _ _).trans up') rfl rfl, sentC_sentC]
    rfl
  · rw [endWindow_open up' rfl (by simp [hw', withCodes])]
    rfl

end Sent

/-! ### VOID codes placed (R155) -/

section Voids

variable {s : State} {w : WindowRead}

theorem placeVoids_window_none (n : Nat) (h : s.window = none) : placeVoids n s = s := by
  cases n with
  | zero => rfl
  | succ n => simp [placeVoids, h]

theorem placeVoids_still (n : Nat) (h : s.window = some w) (stop : w.voids = 0 ∨ w.waiting ≠ 0) : placeVoids n s = s := by
  cases n with
  | zero => rfl
  | succ n => simp only [placeVoids, h, if_pos stop]

theorem placeVoids_succ (n : Nat) (h : s.window = some w) (some_left : w.voids ≠ 0) (free : w.waiting = 0) :
    placeVoids (n + 1) s = placeVoids n (placeCode voidCode (s.setWindow (some { w with voids := w.voids - 1 }))) := by
  simp only [placeVoids, h]
  exact if_neg (not_or.mpr ⟨some_left, not_not.mpr free⟩)

/-- The window with `k` VOID codes moved to its open chunk. -/
def voidsIn (chunkCap k : Nat) (w : WindowRead) : WindowRead :=
  if k = 0 then w else { withCodes chunkCap (List.replicate k voidCode) w with voids := w.voids - k }

theorem voidsIn_succ (chunkCap k : Nat) (w : WindowRead) :
    voidsIn chunkCap (k + 1) w
      = voidsIn chunkCap k (withCodes chunkCap [voidCode] { w with voids := w.voids - 1 }) := by
  cases k with
  | zero => simp [voidsIn, withCodes, capOf]
  | succ k =>
    have cap (x : Nat) (c : Code) (l : List Code) : (if l ++ [c] = [] then chunkCap else x) = x := by simp
    simp [voidsIn, withCodes, capOf, List.replicate_succ, Nat.sub_sub]
    omega

/-- `k` VOID codes that neither fill the chunk nor complete the window. -/
theorem placeVoids_joins {k : Nat} (n : Nat) (h : s.window = some w) (free : w.waiting = 0) (left : k ≤ w.voids)
    (room : w.chunk.length + k < capOf s.settings.chunkCap w) (more : w.placed + k < w.width * w.height) :
    placeVoids (k + n) s = placeVoids n (s.setWindow (some (voidsIn s.settings.chunkCap k w))) := by
  induction k generalizing s w with
  | zero =>
    have same : s.setWindow (some w) = s := by rw [← h]; rfl
    simp only [voidsIn, if_true, same, Nat.zero_add]
  | succ k ih =>
    set w₁ := { w with voids := w.voids - 1 } with hw₁
    set w₂ := withCodes s.settings.chunkCap [voidCode] w₁ with hw₂
    have joined : placeCode voidCode (s.setWindow (some w₁)) = s.setWindow (some w₂) :=
      placeCode_joins (s := s.setWindow (some w₁)) rfl
        (show w.chunk.length + 1 < capOf s.settings.chunkCap w by omega)
        (show w.placed + 1 ≠ w.width * w.height by omega)
    have cap : capOf s.settings.chunkCap w₂ = capOf s.settings.chunkCap w := by simp [hw₂, hw₁, withCodes, capOf]
    have next := ih (s := s.setWindow (some w₂)) (w := w₂) rfl free (by simp [hw₂, hw₁, withCodes]; omega)
      (by rw [show (s.setWindow (some w₂)).settings = s.settings from rfl, cap]; simp [hw₂, hw₁, withCodes]; omega)
      (by simp [hw₂, hw₁, withCodes]; omega)
    rw [Nat.succ_add_eq_add_succ, Nat.add_succ, placeVoids_succ _ h (by omega) free, ← hw₁, joined, next, voidsIn_succ]
    rfl

theorem voidsIn_succ_right (chunkCap k : Nat) (w : WindowRead) : voidsIn chunkCap (k + 1) w
    = withCodes chunkCap [voidCode] { voidsIn chunkCap k w with voids := (voidsIn chunkCap k w).voids - 1 } := by
  cases k with
  | zero => simp [voidsIn, withCodes, capOf]
  | succ k => simp [voidsIn, withCodes, capOf, List.replicate_succ', Nat.sub_sub, Nat.add_assoc]

theorem voidsIn_more {chunkCap k : Nat} (h : 0 < k) (w : WindowRead) : voidsIn chunkCap k w
    = { w with chunk := w.chunk ++ List.replicate k 65535, cap := capOf chunkCap w, placed := w.placed + k,
               voids := w.voids - k } := by
  rw [voidsIn, if_neg (Nat.pos_iff_ne_zero.mp h), withCodes, List.length_replicate]
  rfl

set_option Elab.async false in
theorem capOf_voidsIn (chunkCap k : Nat) (w : WindowRead) : capOf chunkCap (voidsIn chunkCap k w) = capOf chunkCap w := by
  cases k with
  | zero => rfl
  | succ k => simp [voidsIn, withCodes, capOf]

/-- The window's parts after VOID codes have joined the open chunk. -/
theorem voidsIn_parts (chunkCap k : Nat) (w : WindowRead) :
    (voidsIn chunkCap k w).chunk.length = w.chunk.length + k ∧ (voidsIn chunkCap k w).placed = w.placed + k
      ∧ (voidsIn chunkCap k w).voids = w.voids - k ∧ (voidsIn chunkCap k w).waiting = w.waiting
      ∧ (voidsIn chunkCap k w).width = w.width ∧ (voidsIn chunkCap k w).height = w.height
      ∧ (voidsIn chunkCap k w).tag = w.tag := by
  cases k with
  | zero => exact ⟨rfl, rfl, rfl, rfl, rfl, rfl, rfl⟩
  | succ k => simp [voidsIn, withCodes]

section Run

variable {k : Nat}

/-- After `k` VOID codes that join the chunk, one more. -/
theorem placeVoids_after (n : Nat) (h : s.window = some w) (free : w.waiting = 0) (left : k < w.voids)
    (room : w.chunk.length + k < capOf s.settings.chunkCap w) (more : w.placed + k < w.width * w.height) :
    placeVoids (k + (n + 1)) s = placeVoids n (placeCode voidCode (s.setWindow (some
      { voidsIn s.settings.chunkCap k w with voids := (voidsIn s.settings.chunkCap k w).voids - 1 }))) := by
  obtain ⟨-, -, voids, waiting, -⟩ := voidsIn_parts s.settings.chunkCap k w
  rw [placeVoids_joins (n + 1) h free left.le room more,
    placeVoids_succ (s := s.setWindow (some (voidsIn s.settings.chunkCap k w))) n rfl (by omega) (waiting.trans free)]
  rfl

/-- The VOID code that fills the chunk: the rest wait for it. -/
theorem placeVoids_fills (n : Nat) (up : portUp s .c = true) (h : s.window = some w) (free : w.waiting = 0) (left : k < w.voids)
    (room : w.chunk.length + k + 1 = capOf s.settings.chunkCap w) (more : w.placed + k + 1 < w.width * w.height) :
    placeVoids (k + (n + 1)) s = sentC [chunkRecord (voidsIn s.settings.chunkCap (k + 1) w)]
      (some (chunkOut (voidsIn s.settings.chunkCap (k + 1) w))) s := by
  obtain ⟨length, placed, -, -, width, height, -⟩ := voidsIn_parts s.settings.chunkCap k w
  have cap := capOf_voidsIn s.settings.chunkCap k w
  set x := voidsIn s.settings.chunkCap k w with hx
  have filled := placeCode_fills (c := voidCode) (s := s.setWindow (some { x with voids := x.voids - 1 })) up rfl
    (show capOf s.settings.chunkCap x ≤ x.chunk.length + 1 by omega)
    (show x.placed + 1 ≠ x.width * x.height by rw [placed, width, height]; omega)
  rw [placeVoids_after n h free left (by omega) (by omega), filled, voidsIn_succ_right, ← hx]
  exact placeVoids_still n rfl (.inr (Nat.succ_ne_zero _))

/-- The VOID code that completes the window. -/
theorem placeVoids_ends (n : Nat) (up : portUp s .c = true) (h : s.window = some w) (free : w.waiting = 0) (left : k < w.voids)
    (room : w.chunk.length + k < capOf s.settings.chunkCap w) (last : w.placed + k + 1 = w.width * w.height) :
    placeVoids (k + (n + 1)) s = sentC [chunkRecord (voidsIn s.settings.chunkCap (k + 1) w), totalReply w] none s := by
  obtain ⟨-, placed, -, -, width, height, tag⟩ := voidsIn_parts s.settings.chunkCap k w
  set x := voidsIn s.settings.chunkCap k w with hx
  have ended := placeCode_ends (c := voidCode) (s := s.setWindow (some { x with voids := x.voids - 1 })) up rfl
    (show x.placed + 1 = x.width * x.height by rw [placed, width, height]; exact last)
  have reply : totalReply { x with voids := x.voids - 1 } = totalReply w := by simp only [totalReply, width, height, tag]
  rw [placeVoids_after n h free left room (by omega), ended, voidsIn_succ_right, ← hx, reply]
  exact placeVoids_window_none n rfl

end Run

/-- VOID codes placed with no chunk of the window waiting, as far as they go (R155, R157). -/
theorem voidsPlaced_placeVoids (up : portUp s .c = true) (h : s.window = some w) (free : w.waiting = 0)
    (open_ : w.chunk.length < capOf s.settings.chunkCap w) (bound : w.placed + w.voids ≤ w.width * w.height) :
    ∃ rs v, placeVoids w.voids s = sentC rs v s ∧ VoidsPlaced s.settings.chunkCap w v rs := by
  set cap := capOf s.settings.chunkCap w with hcap
  by_cases none_left : w.voids = 0
  · refine ⟨[], some w, ?_, fun _ => ⟨rfl, rfl⟩, by omega, by omega, by omega⟩
    rw [none_left, sentC_nil h]
    rfl
  obtain ⟨k, hk⟩ : ∃ k, min w.voids (cap - w.chunk.length) = k + 1 := ⟨_, (Nat.succ_pred (by omega)).symm⟩
  obtain ⟨n, hn⟩ : ∃ n, w.voids = k + (n + 1) := ⟨w.voids - (k + 1), by omega⟩
  have count : min w.voids ((if w.chunk = [] then s.settings.chunkCap else w.cap) - w.chunk.length) = k + 1 := hk
  have more := voidsIn_more (chunkCap := s.settings.chunkCap) (Nat.succ_pos k) w
  by_cases last : w.placed + k + 1 = w.width * w.height
  · refine ⟨_, _, by rw [hn]; exact placeVoids_ends n up h free (by omega) (by omega) last, ?_⟩
    refine ⟨by omega, fun _ _ below => absurd (count ▸ below) (by omega), fun _ _ below => absurd (count ▸ below) (by omega),
      fun _ _ => ⟨rfl, ?_⟩⟩
    rw [count, chunkRecord, more, totalReply]
  have below : w.placed + k + 1 < w.width * w.height := by omega
  by_cases fills : cap - w.chunk.length ≤ w.voids
  · have full : w.chunk.length + k + 1 = cap := by omega
    refine ⟨_, _, by rw [hn]; exact placeVoids_fills n up h free (by omega) full below, ?_⟩
    refine ⟨by omega, fun _ short _ => absurd fills (Nat.not_le.mpr short), fun _ _ _ => ⟨?_, ?_⟩,
      fun _ all => absurd (count ▸ all) (by omega)⟩
    · rw [count, chunkRecord, more]
    · rw [count, chunkOut, more, show (if w.chunk = [] then s.settings.chunkCap else w.cap) - w.chunk.length = k + 1 by
        show cap - w.chunk.length = k + 1; omega]
      rfl
  · have all : n = 0 := by omega
    refine ⟨[], some (voidsIn s.settings.chunkCap (k + 1) w), ?_, ?_⟩
    · rw [hn, all, placeVoids_joins (k := k + 1) 0 h free (by omega) (by omega) (by omega), placeVoids]
      exact (sentC_nil (s := s.setWindow (some (voidsIn s.settings.chunkCap (k + 1) w))) rfl).symm.trans (by
        rw [sentC, sentC]; rfl)
    · refine ⟨by omega, fun _ _ _ => ⟨rfl, ?_⟩, fun _ long _ => absurd long fills, fun _ all => absurd (count ▸ all) (by omega)⟩
      rw [count, more, show w.voids - (k + 1) = 0 by omega]
      rfl

end Voids

/-! ### The reader at its own pace (R154, R155) -/

section Settled

variable {s t u : State} {w : WindowRead}

theorem windowReadInFlight_iff : windowReadInFlight s = true ↔ WindowReadUnderWay s := by
  unfold windowReadInFlight WindowReadUnderWay
  split
  · rename_i o ho
    simp only [Bool.and_eq_true, Bool.not_eq_true', ownedByWindow_iff]
    refine ⟨fun ⟨owned, kept⟩ => ⟨o, ho, kept, owned⟩, fun ⟨o', ho', kept, owned⟩ => ?_⟩
    obtain rfl := Option.some.inj (ho.symm.trans ho')
    exact ⟨owned, kept⟩
  · rename_i none_
    exact iff_of_false Bool.false_ne_true fun ⟨o, ho, _⟩ => nomatch none_.symm.trans ho

theorem settleVoids_none (h : s.window = none) : settleVoids s = s := by simp [settleVoids, h]

theorem settleVoids_free (h : s.window = some w) (idle : windowReadInFlight s = false) :
    settleVoids s = placeVoids w.voids s := by simp [settleVoids, h, idle]

theorem settleVoids_reading (h : windowReadInFlight s = true) : settleVoids s = s := by
  unfold settleVoids
  split
  · rfl
  · rw [if_pos h]

/-- VOID codes that may not be placed, or of which there are none. -/
theorem settleVoids_still (h : s.window = some w) (stop : w.voids = 0 ∨ w.waiting ≠ 0 ∨ WindowReadUnderWay s) :
    settleVoids s = s := by
  cases reading : windowReadInFlight s with
  | true => exact settleVoids_reading reading
  | false =>
    rw [settleVoids_free h reading]
    refine placeVoids_still _ h (stop.imp_right fun stop => stop.resolve_right fun under_way => ?_)
    rw [windowReadInFlight_iff.mpr under_way] at reading
    nomatch reading

/-- Records have been added to Port C's send order, and nothing else of the links has changed. -/
def OnlySentOnC (s t : State) : Prop :=
  (∃ rs, linkOf t .c = { linkOf s .c with toSend := (linkOf s .c).toSend ++ rs }) ∧ ∀ p, p ≠ .c → linkOf t p = linkOf s p

theorem OnlySentOnC.of_links (h : t.links = s.links) : OnlySentOnC s t :=
  ⟨⟨[], by rw [linkOf_congr _ h, List.append_nil]⟩, fun p _ => linkOf_congr p h⟩

theorem OnlySentOnC.trans (h₁ : OnlySentOnC s t) (h₂ : OnlySentOnC t u) : OnlySentOnC s u := by
  obtain ⟨⟨rs₁, c₁⟩, others₁⟩ := h₁
  obtain ⟨⟨rs₂, c₂⟩, others₂⟩ := h₂
  exact ⟨⟨rs₁ ++ rs₂, by rw [c₂, c₁, List.append_assoc]⟩, fun p hp => (others₂ p hp).trans (others₁ p hp)⟩

set_option Elab.async false in
theorem OnlySentOnC.portUp (h : OnlySentOnC s t) : portUp t .c = portUp s .c := by
  obtain ⟨⟨rs, c⟩, -⟩ := h
  rw [Machine.portUp, c]
  rfl

theorem onlySentOnC_send (r : OutRecord) (s : State) : OnlySentOnC s (send .c r s) := by
  cases up : portUp s .c with
  | true => rw [send_eq_sentC r up]; exact ⟨⟨[r], linkOf_sentC ..⟩, fun p hp => linkOf_sentC_other _ _ _ hp⟩
  | false => rw [send_down r up]; exact .of_links rfl

theorem onlySentOnC_sendChunk (s : State) : OnlySentOnC s (sendChunk s) := by
  unfold sendChunk
  split
  · exact .of_links rfl
  · exact (onlySentOnC_send _ s).trans (.of_links rfl)

theorem onlySentOnC_endWindow (s : State) : OnlySentOnC s (endWindow s) := by
  unfold endWindow
  dsimp only
  split
  · exact .of_links rfl
  · split
    · exact (onlySentOnC_send _ s).trans (.of_links rfl)
    · exact ((onlySentOnC_sendChunk s).trans (onlySentOnC_send _ _)).trans (.of_links rfl)

theorem onlySentOnC_placeCode (c : Code) (s : State) : OnlySentOnC s (placeCode c s) := by
  cases h : s.window with
  | none => rw [show placeCode c s = s by simp [placeCode, h]]; exact .of_links rfl
  | some w =>
    have joined : OnlySentOnC s (s.setWindow (some (withCodes s.settings.chunkCap [c] w))) := .of_links rfl
    rw [placeCode_eq h]
    dsimp only
    split
    · split
      · exact (joined.trans (onlySentOnC_sendChunk _)).trans (onlySentOnC_endWindow _)
      · exact joined.trans (onlySentOnC_endWindow _)
    · split
      · exact joined.trans (onlySentOnC_sendChunk _)
      · exact joined

theorem onlySentOnC_placeVoids (n : Nat) (s : State) : OnlySentOnC s (placeVoids n s) := by
  induction n generalizing s with
  | zero => exact .of_links rfl
  | succ n ih =>
    unfold placeVoids
    split
    · exact .of_links rfl
    · split
      · exact .of_links rfl
      · rename_i w _ _
        have less : OnlySentOnC s (s.setWindow (some { w with voids := w.voids - 1 })) := .of_links rfl
        exact (less.trans (onlySentOnC_placeCode voidCode _)).trans (ih _)

theorem onlySentOnC_settleVoids (s : State) : OnlySentOnC s (settleVoids s) := by
  unfold settleVoids
  split
  · exact .of_links rfl
  · split
    · exact .of_links rfl
    · exact onlySentOnC_placeVoids _ s

end Settled

/-! ### The window at a choice (R106, R154) -/

section ChosenWindow

variable {s : State} {w v : WindowRead} {y k : Nat}

/-- The reader has moved on: its offered word and the VOID codes left to place are all that may differ. -/
def ReaderMoved (w v : WindowRead) : Prop := v = { w with cursor := v.cursor, voids := v.voids }

theorem readerMoved_of_windowAdvanced (h : WindowAdvanced s w y k v) : ReaderMoved w v := by
  obtain ⟨same_row, next_row, no_row⟩ := h
  by_cases more : k < (w.column + w.width - 1) / 4
  · rw [same_row more, ReaderMoved]
  · have last := Nat.not_lt.mp more
    by_cases some_read : ∃ m, y < m ∧ m < w.row + w.height ∧ RowReadable s w.sheet m
    · classical
      obtain ⟨after, inside, readable⟩ := Nat.find_spec some_read
      rw [next_row (Nat.find some_read) last after inside readable fun m hm lt read =>
        Nat.find_min some_read lt ⟨hm, by omega, read⟩, ReaderMoved]
    · rw [no_row last fun m hm lt read => some_read ⟨m, hm, lt, read⟩, ReaderMoved]

theorem choose_window (s : State) : (choose s).window = s.window ∨ ∃ w y k v, offeredWord s = some (w, y, k)
    ∧ (choose s).window = some v ∧ WindowAdvanced s w y k v := by
  obtain same | ⟨o, -, ⟨-, -, -, -, -, -, ⟨window, other⟩, -⟩, -⟩ := choiceMade_choose s
  · exact .inl (by rw [same])
  · by_cases h : ∃ tile word y k, o.op = .read tile word (.window y k)
    · obtain ⟨tile, word, y, k, e⟩ := h
      obtain ⟨-, -, w, v, offered, next, advanced⟩ := window tile word y k e
      exact .inr ⟨w, y, k, v, offered, next, advanced⟩
    · exact .inl (other fun tile word y k e => h ⟨tile, word, y, k, e⟩).1

theorem choose_window_some (h : s.window = some w) : ∃ v, (choose s).window = some v ∧ ReaderMoved w v := by
  obtain same | ⟨w', y, k, v, offered, next, advanced⟩ := choose_window s
  · exact ⟨w, same.trans h, rfl⟩
  · obtain rfl := Option.some.inj ((offeredWord_iff.mp offered).1.symm.trans h)
    exact ⟨v, next, readerMoved_of_windowAdvanced advanced⟩

theorem choose_window_still (h : ∀ w, s.window = some w → w.cursor = none ∨ w.waiting ≠ 0) :
    (choose s).window = s.window := by
  obtain same | ⟨w, y, k, v, offered, -⟩ := choose_window s
  · exact same
  · obtain ⟨hw, cursor, waiting⟩ := offeredWord_iff.mp offered
    obtain none_ | held := h w hw
    · nomatch cursor.symm.trans none_
    · exact absurd waiting held

/-- No word is offered while a chunk of the window waits (R154). -/
theorem offeredWord_none (h : s.window = some w) (held : w.waiting ≠ 0) : offeredWord s = none := by
  cases offered : offeredWord s with
  | none => rfl
  | some p =>
    obtain ⟨w', y, k⟩ := p
    obtain ⟨hw, -, free⟩ := offeredWord_iff.mp offered
    obtain rfl := Option.some.inj (h.symm.trans hw)
    exact absurd free held

end ChosenWindow

/-! ### WINDOW_CHUNK_SENT (R154, R155) -/

section ChunkSent

variable {s : State} {before after : List OutRecord} {tag : Tag} {index : Nat} {codes : List Code} {w : WindowRead}

theorem afterFirstChunk_eq (h : before.all (fun r => !r.isChunk) = true) :
    afterFirstChunk (before ++ .windowChunk tag index codes :: after) = after := by
  induction before with
  | nil => rfl
  | cons r before ih =>
    obtain ⟨other, rest⟩ := Bool.and_eq_true_iff.mp (List.all_cons ▸ h)
    rw [List.cons_append, afterFirstChunk, if_neg (by simpa using other), ih rest]

/-- The oldest chunk off the port. -/
theorem chunkGone_link (hs : (linkOf s .c).toSend = before ++ .windowChunk tag index codes :: after)
    (hb : before.all (fun r => !r.isChunk) = true) :
    linkOf (chunkGone s) .c = { linkOf s .c with toSend := after } ∧ ∀ p, p ≠ .c → linkOf (chunkGone s) p = linkOf s p := by
  unfold chunkGone
  simp only [hs, afterFirstChunk_eq hb]
  split
  · exact ⟨linkOf_setLink_same .c _ s, fun p hp => linkOf_setLink_other _ hp⟩
  · exact ⟨linkOf_setLink_same .c _ s, fun p hp => linkOf_setLink_other _ hp⟩

theorem chunkGone_window (hs : (linkOf s .c).toSend = before ++ .windowChunk tag index codes :: after)
    (hb : before.all (fun r => !r.isChunk) = true) : (chunkGone s).window
      = s.window.map (fun w => { w with waiting := min w.waiting (after.countP OutRecord.isChunk) }) := by
  unfold chunkGone
  simp only [hs, afterFirstChunk_eq hb]
  cases h : s.window with
  | none => simp only [State.setLinks_window, setLink, h]; rfl
  | some w => simp only [State.setLinks_window, setLink, h]; rfl

end ChunkSent

/-- Settles O19. -/
theorem chunkSentInFullLetsTheReaderGoOn : Obligations.ChunkSentInFullLetsTheReaderGoOn := by
  unfold Obligations.ChunkSentInFullLetsTheReaderGoOn
  intro s hr
  refine ⟨fun before after tag index codes hs hb => ?_, fun none_ => ?_⟩
  case refine_2 =>
    have idle : ((linkOf s .c).toSend.any OutRecord.isChunk) = false := by simpa using none_
    exact takeEvent_not_due (act := fun s => choose (settleVoids (chunkGone s))) hr idle
  set g := chunkGone s with hg
  have gone : Unchanged [.links, .window] s g := chunkGone_unchanged s
  obtain ⟨link, others⟩ := chunkGone_link hs hb
  have window := chunkGone_window hs hb
  set u := settleVoids g with hu
  have same : Unchanged [.links, .window] s u := gone.trans (settleVoids_unchanged g)
  obtain ⟨⟨sent, out⟩, elsewhere⟩ := onlySentOnC_settleVoids g
  rw [← hg] at link others window
  have up : portUp g .c = portUp s .c := by rw [portUp, link]; rfl
  have under_way : WindowReadUnderWay g ↔ WindowReadUnderWay s := by rw [WindowReadUnderWay, gone.port, WindowReadUnderWay]
  have still {w : WindowRead} (hw : s.window = some w)
      (stop : w.voids = 0 ∨ (w.waiting ≠ 0 ∧ after.countP OutRecord.isChunk ≠ 0) ∨ WindowReadUnderWay s) : u = g := by
    rw [hw] at window
    refine settleVoids_still window (stop.imp_right (Or.imp (fun ⟨held, more⟩ => ?_) under_way.mpr))
    show min w.waiting (after.countP OutRecord.isChunk) ≠ 0
    omega
  have due : ((linkOf s .c).toSend.any OutRecord.isChunk) = true := by simp [hs, OutRecord.isChunk]
  have taken : exec .windowChunkSent s = .next (choose u) :=
    takeEvent_due (act := fun s => choose (settleVoids (chunkGone s))) hr due
  refine ⟨choose u, taken, fun w hw no_voids => ?_, fun w hw no_voids => ?_, fun w hw => ?_, fun none_ => ?_,
    (same.mono (by simp)).andThen (choose_unchanged u)⟩
  · have here := still hw (.inl no_voids)
    obtain ⟨v, hv, moved⟩ := choose_window_some (s := u) (by rw [here, window, hw]; rfl)
    refine ⟨by rw [linkOf_congr _ (choose_unchanged u).links, here, link], v, hv, ?_⟩
    rw [moved]
    exact ⟨rfl, rfl, rfl, rfl, rfl⟩
  · have here := still hw (.inl no_voids)
    have found : u.window = some { w with waiting := min w.waiting (after.countP OutRecord.isChunk) } := by
      rw [here, window, hw]; rfl
    refine ⟨u, rfl, same, found, fun y k cursor => ⟨fun none_left => ?_, fun held more => ?_⟩⟩
    · rw [none_left, Nat.min_zero] at found
      exact offeredWord_iff.mpr ⟨found, cursor, rfl⟩
    · exact offeredWord_none found (by show min w.waiting _ ≠ 0; omega)
  · refine ⟨u, sent, rfl, same, by rw [out, link], fun p hp => (elsewhere p hp).trans (others p hp),
      (onlySentOnC_settleVoids g).portUp.trans up, fun stop => ?_, fun free idle isUp room bound => ?_⟩
    · have here := still hw stop
      refine ⟨?_, by rw [here, window, hw]; rfl⟩
      rw [← hu, here] at out
      simpa using congrArg Link.toSend out
    · have zero : min w.waiting (after.countP OutRecord.isChunk) = 0 := by omega
      rw [hw, Option.map_some, zero] at window
      have reading : windowReadInFlight g = false := Bool.eq_false_iff.mpr fun r =>
        idle (under_way.mp (windowReadInFlight_iff.mp r))
      have settings : g.settings = s.settings := gone.settings
      obtain ⟨rs, v, placed, voids⟩ := voidsPlaced_placeVoids (up.trans isUp) window rfl
        (by rw [settings]; exact room) bound
      have placed : u = sentC rs v g := (settleVoids_free window reading).trans placed
      rw [← hu, placed, linkOf_sentC] at out
      have records : rs = sent := List.append_cancel_left (congrArg Link.toSend out)
      rw [placed, ← records, ← settings]
      exact voids
  · rw [none_, Option.map_none] at window
    have here : u = g := settleVoids_none window
    refine ⟨by rw [linkOf_congr _ (choose_unchanged u).links, here, link], ?_⟩
    rw [choose_window_still (by rw [here, window]; exact nofun), here, window]

/-! ### READ_WINDOW (R153 to R155) -/

section ReadWindow

variable {s : State} {tag : Tag} {n x y w h : Nat} {sh : Sheet} {rest : List Request} {q : Request}

/-- The rectangle that check 4 admits. -/
def WindowInside (sh : Sheet) (x y w h : Nat) : Prop :=
  0 < w ∧ 0 < h ∧ w * h ≤ 65536 ∧ x + w ≤ sh.geom.width ∧ y + h ≤ sh.geom.height

set_option Elab.async false in
theorem checkWindow_outside (hn : 15 < n) : checkWindow s n x y w h = some .badValue := if_pos hn

theorem checkWindow_busy (hn : n ≤ 15) (hw : s.window ≠ none) : checkWindow s n x y w h = some .busy := by
  have busy : s.window.isSome = true := Option.isSome_iff_ne_none.mpr hw
  simp only [checkWindow, if_neg (Nat.not_lt.mpr hn), busy, if_true]

theorem checkWindow_state (hn : n ≤ 15) (hw : s.window = none)
    (hx : ∀ sh, sheetAt s n = some sh → sh.state ≠ .scanning ∧ sh.state ≠ .ready) :
    checkWindow s n x y w h = some .wrongState := by
  simp only [checkWindow, if_neg (Nat.not_lt.mpr hn), hw, Option.isSome_none, Bool.false_eq_true, if_false]
  split
  · rfl
  · rename_i sh hs
    exact if_pos (hx sh hs)

/-- The sheet and its state pass; the rectangle decides. -/
theorem checkWindow_rectangle (hw : s.window = none) (hx : sheetAt s n = some sh)
    (hs : sh.state = .scanning ∨ sh.state = .ready) :
    checkWindow s n x y w h = if w = 0 ∨ h = 0 ∨ 65536 < w * h ∨ sh.geom.width < x + w ∨ sh.geom.height < y + h
      then some .badValue else none := by
  have inside : ¬ 15 < n := Nat.not_lt.mpr (Nat.le_of_lt_succ (lt_of_sheetAt hx))
  have live : ¬ (sh.state ≠ .scanning ∧ sh.state ≠ .ready) := fun ⟨a, b⟩ => hs.elim a b
  simp only [checkWindow, if_neg inside, hw, Option.isSome_none, Bool.false_eq_true, if_false, hx, if_neg live]

theorem checkWindow_bad (hw : s.window = none) (hx : sheetAt s n = some sh) (hs : sh.state = .scanning ∨ sh.state = .ready)
    (bad : ¬ WindowInside sh x y w h) : checkWindow s n x y w h = some .badValue := by
  rw [checkWindow_rectangle hw hx hs, if_pos]
  unfold WindowInside at bad
  omega

theorem checkWindow_passes (hw : s.window = none) (hx : sheetAt s n = some sh) (hs : sh.state = .scanning ∨ sh.state = .ready)
    (good : WindowInside sh x y w h) : checkWindow s n x y w h = none := by
  rw [checkWindow_rectangle hw hx hs, if_neg]
  unfold WindowInside at good
  omega

theorem refused_readWindow {r : Reason} (front : AtFront ⟨tag, .readWindow n x y w h⟩ rest s)
    (bad : checkWindow s n x y w h = some r) : ∃ t, exec (.readWindow tag n x y w h) s = .next t
      ∧ Refused ⟨tag, .readWindow n x y w h⟩ r rest s t := by
  refine ⟨_, takeRequest_front front, ?_⟩
  have bad' : checkWindow (s.setCellQueue rest) n x y w h = some r := bad
  simp only [takeReadWindow, bad']
  exact refused_answerRequest r

theorem exec_readWindow (front : AtFront ⟨tag, .readWindow n x y w h⟩ rest s) (good : checkWindow s n x y w h = none) :
    exec (.readWindow tag n x y w h) s = .next (choose (startWindow tag n x y w h (s.setCellQueue rest))) := by
  have good' : checkWindow (s.setCellQueue rest) n x y w h = none := good
  refine (takeRequest_front front).trans ?_
  simp only [takeReadWindow, good']

/-- A window whose first row is readable (R154). -/
theorem startWindow_readable (tag : Tag) (x w : Nat) (hh : 0 < h) (readable : RowReadable s n y) :
    startWindow tag n x y w h s
      = s.setWindow (some { newWindow tag n x y w h with cursor := some (y, x / 4) }) := by
  have first := takeUpRows_readable (readable := rowReadable s n) h (newWindow tag n x y w h) (Nat.le_refl y)
    (Nat.lt_add_of_pos_right hh) (rowReadable_iff.mpr readable) (fun m hm lt => absurd hm (Nat.not_le.mpr lt))
  rw [Nat.sub_self, Nat.zero_mul, Nat.add_zero] at first
  rw [startWindow, first]
  exact settleVoids_still rfl (.inl rfl)

/-- A window as it starts whose rows all lie beyond the frontier: its codes are all to place (log 12). -/
def beyondWindow (tag : Tag) (n x y w h : Nat) : WindowRead := { newWindow tag n x y w h with voids := h * w }

/-- A window whose rows all lie beyond the frontier (R154). -/
theorem startWindow_beyond (tag : Tag) (x w : Nat) (beyond : ∀ m, y ≤ m → ¬ RowReadable s n m)
    (idle : windowReadInFlight s = false) (up : portUp s .c = true) (cap : 0 < s.settings.chunkCap) :
    ∃ rs v, startWindow tag n x y w h s = sentC rs v (s.setWindow (some (beyondWindow tag n x y w h)))
      ∧ VoidsPlaced s.settings.chunkCap (beyondWindow tag n x y w h) v rs := by
  have none_read : takeUpRows (rowReadable s n) h y (newWindow tag n x y w h) = beyondWindow tag n x y w h :=
    (takeUpRows_none (readable := rowReadable s n) (y := y) h (newWindow tag n x y w h)
      (fun m hm _ => Bool.eq_false_iff.mpr fun r => beyond m hm (rowReadable_iff.mp r))).trans
      (by simp [newWindow, beyondWindow])
  have started : startWindow tag n x y w h s = settleVoids (s.setWindow (some (beyondWindow tag n x y w h))) := by
    rw [startWindow, none_read]
  rw [started, settleVoids_free (s := s.setWindow (some (beyondWindow tag n x y w h))) rfl idle]
  exact voidsPlaced_placeVoids (s := s.setWindow (some (beyondWindow tag n x y w h))) up rfl rfl cap
    (show 0 + h * w ≤ w * h by rw [Nat.zero_add, Nat.mul_comm])

section Beyond

variable {chunkCap : Nat} {v : Option WindowRead} {rs : List OutRecord}

set_option Elab.async false in
theorem beyond_ends (placed : VoidsPlaced chunkCap (beyondWindow tag n x y w h) v rs) (some_ : 0 < w * h)
    (small : w * h ≤ chunkCap) : v = none
      ∧ rs = [.windowChunk tag 0 (List.replicate (w * h) 65535), .cellReply tag 9 .done (.total (w * h))] := by
  obtain ⟨-, -, -, ends⟩ := placed
  have count : min (h * w) (chunkCap - 0) = w * h := by rw [Nat.mul_comm h w]; omega
  have first : 0 < h * w := by rwa [Nat.mul_comm]
  obtain ⟨gone, sent⟩ := ends first (show 0 + min (h * w) (chunkCap - 0) = w * h by rw [count, Nat.zero_add])
  refine ⟨gone, sent.trans ?_⟩
  show [OutRecord.windowChunk tag 0 ([] ++ List.replicate (min (h * w) (chunkCap - 0)) 65535),
    .cellReply tag 9 .done (.total (w * h))] = _
  rw [count, List.nil_append]

theorem beyond_more (placed : VoidsPlaced chunkCap (beyondWindow tag n x y w h) v rs) (cap : 0 < chunkCap)
    (large : chunkCap < w * h) :
    (∃ v', v = some v' ∧ v'.cursor = none ∧ v'.placed = chunkCap ∧ v'.chunk = [] ∧ v'.nextIndex = 1
      ∧ v'.voids = w * h - chunkCap ∧ v'.waiting = 1 ∧ v'.sheet = n ∧ v'.tag = tag)
    ∧ rs = [.windowChunk tag 0 (List.replicate chunkCap 65535)] := by
  obtain ⟨-, -, more, -⟩ := placed
  have area : h * w = w * h := Nat.mul_comm h w
  have count : min (h * w) (chunkCap - 0) = chunkCap := by omega
  obtain ⟨sent, window⟩ := more (show 0 < h * w by omega) (show chunkCap - 0 ≤ h * w by omega)
    (show 0 + min (h * w) (chunkCap - 0) < w * h by omega)
  refine ⟨⟨_, window, rfl, ?_, rfl, rfl, ?_, rfl, rfl, rfl⟩, sent.trans ?_⟩
  · show 0 + min (h * w) (chunkCap - 0) = chunkCap
    omega
  · show h * w - (chunkCap - 0) = w * h - chunkCap
    omega
  · show [OutRecord.windowChunk tag 0 ([] ++ List.replicate (min (h * w) (chunkCap - 0)) 65535)] = _
    rw [count, List.nil_append]

end Beyond

end ReadWindow

/-- Settles O17. -/
theorem readWindowStartsOrIsRefused : Obligations.ReadWindowStartsOrIsRefused := by
  unfold Obligations.ReadWindowStartsOrIsRefused
  refine ⟨fun s tag n x y w h sh rest front hw hx hw0 hh0 area right low readable => ?_,
    fun s tag n x y w h rest front => ?_,
    fun s tag n x y w h sh r rest front hw idle hx hs hk beyond hw0 hh0 area right low cap up => ?_⟩
  · have live : sh.state = .scanning ∨ sh.state = .ready := by
      obtain ready | ⟨r, scanning, -⟩ := readable
      · exact .inr ready
      · exact .inl scanning
    set q := s.setCellQueue rest with hq
    set offer : WindowRead := { newWindow tag n x y w h with cursor := some (y, x / 4) } with hoffer
    set u := q.setWindow (some offer) with hu
    have taken := exec_readWindow front (checkWindow_passes hw hx live ⟨hw0, hh0, area, right, low⟩)
    rw [startWindow_readable tag x w hh0 (s := q) ⟨sh, hx, readable⟩, ← hoffer, ← hu] at taken
    have same : Unchanged [.window, .cellQueue] s u :=
      ((setCellQueue_unchanged rest s).mono (by simp)).andThen (setWindow_unchanged _ _)
    obtain ⟨v, hv, moved⟩ := choose_window_some (s := u) rfl
    refine ⟨choose u, v, taken, hv, ?_, ?_, ?_, ?_, ?_, ?_, ?_, ?_, ?_, ?_, ?_, fun busy => ?_,
      ⟨u, offer, rfl, same, rfl, rfl, offeredWord_iff.mpr ⟨rfl, rfl, rfl⟩, moved⟩, ?_,
      (same.mono (by simp)).andThen (choose_unchanged u)⟩
    iterate 11 rw [moved]; rfl
    · have still : choose u = u := choose_of_busy busy
      rw [still] at hv ⊢
      obtain rfl := Option.some.inj (show some offer = some v from hv)
      exact ⟨rfl, rfl⟩
    · rw [(choose_unchanged u).cellQueue]
      rfl
  · by_cases good : checkWindow s n x y w h = none
    · refine ⟨_, exec_readWindow front good, fun hn => ?_, fun hn hw => ?_, fun hn hw hx => ?_, fun hw sh hx hs bad => ?_⟩
      · nomatch good.symm.trans (checkWindow_outside hn)
      · nomatch good.symm.trans (checkWindow_busy hn hw)
      · nomatch good.symm.trans (checkWindow_state hn hw hx)
      · nomatch good.symm.trans (checkWindow_bad hw hx hs bad)
    · obtain ⟨r, hr⟩ := Option.ne_none_iff_exists'.mp good
      obtain ⟨t, taken, refused⟩ := refused_readWindow front hr
      have reason {r' : Reason} (hr' : checkWindow s n x y w h = some r') :
          Refused ⟨tag, .readWindow n x y w h⟩ r' rest s t := Option.some.inj (hr.symm.trans hr') ▸ refused
      exact ⟨t, taken, fun hn => reason (checkWindow_outside hn), fun hn hw => reason (checkWindow_busy hn hw),
        fun hn hw hx => reason (checkWindow_state hn hw hx), fun hw sh hx hs bad => reason (checkWindow_bad hw hx hs bad)⟩
  · set q := s.setCellQueue rest with hq
    set b := beyondWindow tag n x y w h with hb
    have taken := exec_readWindow front (checkWindow_passes hw hx (.inl hs) ⟨hw0, hh0, area, right, low⟩)
    have unread (m : Nat) (hm : y ≤ m) : ¬ RowReadable q n m := by
      rintro ⟨sh', hx', ready | ⟨r', -, hk', lt⟩⟩
      · obtain rfl := Option.some.inj ((show sheetAt q n = some sh from hx).symm.trans hx')
        nomatch hs.symm.trans ready
      · obtain rfl := Option.some.inj ((show sheetAt q n = some sh from hx).symm.trans hx')
        cases hk.symm.trans hk'
        omega
    obtain ⟨rs, v, started, placed⟩ := startWindow_beyond (s := q) (h := h) tag x w unread idle up cap
    set u := sentC rs v (q.setWindow (some b)) with hu
    have same : Unchanged [.window, .cellQueue, .links] s u :=
      ((((setCellQueue_unchanged rest s).mono (by simp)).andThen (setWindow_unchanged _ _)).andThen
        (setLink_unchanged _ _ _)).andThen (setWindow_unchanged _ _)
    rw [started] at taken
    have placed : VoidsPlaced s.settings.chunkCap b v rs := placed
    have chosen := choose_unchanged u
    have out : (linkOf (choose u) .c).toSend = (linkOf s .c).toSend ++ rs := by
      rw [linkOf_congr _ chosen.links, hu, linkOf_sentC]
      rfl
    have still : (choose u).window = v := by
      refine choose_window_still (s := u) fun w' hw' => .inl ?_
      have hv : v = some w' := hw'
      by_cases small : w * h ≤ s.settings.chunkCap
      · nomatch (beyond_ends placed (Nat.mul_pos hw0 hh0) small).1.symm.trans hv
      · obtain ⟨⟨v', e, cursor, -⟩, -⟩ := beyond_more placed cap (Nat.not_le.mp small)
        obtain rfl := Option.some.inj (e.symm.trans hv)
        exact cursor
    refine ⟨choose u, taken, fun small => ?_, fun large => ?_, ⟨u, rfl, still.symm, same⟩, chosen.cellQueue,
      (same.mono (by simp)).andThen chosen⟩
    · obtain ⟨gone, sent⟩ := beyond_ends placed (Nat.mul_pos hw0 hh0) small
      exact ⟨still.trans gone, by rw [out, sent]⟩
    · obtain ⟨⟨v', e, parts⟩, sent⟩ := beyond_more placed cap large
      exact ⟨⟨v', still.trans e, parts⟩, by rw [out, sent]⟩

end Sys2Proof.Machine
end

section
/-! SUPPORT. The frame mark (R49, R50): the blocks in their order, and what each leaves of the next. -/

namespace Sys2Proof.Machine

/- A proof is elaborated in a task of its own. `set_option Elab.async false in` before a theorem makes the compile wait there
for the proofs before it, so that only a few are under way at a time; the linters, which would keep every proof's syntax
tree, are off, so that the compile of the whole text stays within its memory. -/
set_option linter.all false

open Sys2Proof

section Mark

variable {s : State} {w : WindowRead}

/-! ### FRAME_MARK sent on the spindle ports (R51) -/

theorem sendMarks_others_aux (ns : List (Fin 6)) (s : State) {p : Port} (hp : ∀ n ∈ ns, p ≠ .s n) :
    linkOf (ns.foldl (fun s n => send (.s n) (.frameMark s.time.frame s.time.machineTime) s) s) p = linkOf s p := by
  induction ns generalizing s with
  | nil => rfl
  | cons n ns ih =>
    rw [List.foldl_cons, ih _ fun m hm => hp m (List.mem_cons_of_mem _ hm), linkOf_send_other _ (hp n List.mem_cons_self)]

theorem foldl_sendMarks_time (ns : List (Fin 6)) (s : State) :
    (ns.foldl (fun s n => send (.s n) (.frameMark s.time.frame s.time.machineTime) s) s).time = s.time := by
  induction ns generalizing s with
  | nil => rfl
  | cons n ns ih => rw [List.foldl_cons, ih, (send_unchanged _ _ _).time]

theorem foldl_sendMarks_spindle {ns : List (Fin 6)} (nodup : ns.Nodup) {n : Fin 6} (hn : n ∈ ns) (s : State) :
    linkOf (ns.foldl (fun s n => send (.s n) (.frameMark s.time.frame s.time.machineTime) s) s) (.s n)
      = { linkOf s (.s n) with toSend := if portUp s (.s n) then
            (linkOf s (.s n)).toSend ++ [.frameMark s.time.frame s.time.machineTime] else (linkOf s (.s n)).toSend } := by
  induction ns generalizing s with
  | nil => nomatch hn
  | cons m ns ih =>
    obtain ⟨fresh, nodup⟩ := List.nodup_cons.mp nodup
    rw [List.foldl_cons]
    by_cases here : n = m
    · subst here
      rw [sendMarks_others_aux ns _ fun m hm e => fresh (by cases e; exact hm), linkOf_send_same]
    · have other : (Port.s n) ≠ .s m := fun e => here (by cases e; rfl)
      rw [ih nodup ((List.mem_cons.mp hn).resolve_left here), linkOf_send_other _ other, portUp_send,
        (send_unchanged _ _ _).time]

/-! ### The blocks up to the scheduler -/

/-- The time base at the mark, and the records that carry it. -/
def markSent (s : State) : State := sendMarks (s.setTime (timeAtMark s.settings s.time))

theorem markSent_unchanged (s : State) : Unchanged [.time, .links] s (markSent s) :=
  ((setTime_unchanged _ s).mono (by decide)).andThen (sendMarks_unchanged _)

theorem markSent_time (s : State) : (markSent s).time = timeAtMark s.settings s.time := by
  rw [markSent, (sendMarks_unchanged _).time]
  rfl

theorem markSent_spindle (n : Fin 6) (s : State) : linkOf (markSent s) (.s n) = { linkOf s (.s n) with
    toSend := if portUp s (.s n) then (linkOf s (.s n)).toSend ++ [.frameMark (s.time.frame + 1) s.time.machineTime]
      else (linkOf s (.s n)).toSend } := by
  rw [markSent, sendMarks, foldl_sendMarks_spindle nodup_allSpindles (mem_allSpindles n)]
  rfl

theorem markSent_other {p : Port} (hp : ∀ n, p ≠ .s n) (s : State) : linkOf (markSent s) p = linkOf s p :=
  sendMarks_others_aux _ _ fun n _ => hp n

/-- Whether a record is due at the mark. -/
def dueAtMark (s : State) (r : QueryRecord) : Bool := r.due == s.time.frame + 1

/-- The records that the mark finds late (R101). -/
def lateRecords (s : State) : List QueryRecord := s.queries.records.filter (dueAtMark s)

/-- The records due at the mark answered HELD_LATE, and LATE_REPLY. -/
theorem lateAtMark_answers (s : State) :
    AnsweredAndRemoved (fun h r => min h r.floor) .heldLate (dueAtMark s) (markSent s)
      (answerAndRemove (dueAtMark s) .heldLate (markSent s)) :=
  answeredAndRemoved_held (by simp) (by simp) _ _

theorem lateAtMark_markSent (s : State) : lateAtMark (markSent s) =
    if s.queries.records.any (dueAtMark s) then raise srcLateReply (answerAndRemove (dueAtMark s) .heldLate (markSent s))
    else answerAndRemove (dueAtMark s) .heldLate (markSent s) := by
  have p : (fun r : QueryRecord => r.due == (markSent s).time.frame) = dueAtMark s := by rw [markSent_time]; rfl
  unfold lateAtMark
  simp only [p, (markSent_unchanged s).queries]

/-- The state after the late replies differs from that with the records answered in the notices alone. -/
theorem lateAtMark_raises (s : State) :
    Unchanged [.notices] (answerAndRemove (dueAtMark s) .heldLate (markSent s)) (lateAtMark (markSent s)) := by
  rw [lateAtMark_markSent]
  split
  · rw [raise_of_not_urgent (by decide)]
    exact setNotices_unchanged _ _
  · exact .refl _ _

/-- The state in which the chunk and the notice interval meet the mark. -/
def atMark (s : State) : State :=
  let u := mapSpindles contextAtMark allSpindles (lateAtMark (markSent s))
  u.setSched (ageAtMark u.sched)

theorem takeMark_eq (s : State) : takeMark s =
    countBy cntOccupancy (occupancyAtMark (noticeAtMark (holdChunkAtMark (atMark s))))
      (noticeAtMark (holdChunkAtMark (atMark s))) := rfl

theorem atMark_later (s : State) : Unchanged [.spindles, .sched] (lateAtMark (markSent s)) (atMark s) :=
  ((mapSpindles_unchanged contextAtMark allSpindles _).mono (by decide)).andThen (setSched_unchanged _ _)

/-- A context at the mark, with the held depth that its late replies leave. -/
theorem atMark_spindles (s : State) (n : Fin 6) : (atMark s).spindles[n]'n.2
    = contextAtMark { s.spindles[n]'n.2 with held := heldAfter (s.spindles[n]'n.2).held (ofSpindle n (lateRecords s)) } := by
  have late := (lateAtMark_answers s).spindles n
  rw [(markSent_unchanged s).queries, (markSent_unchanged s).spindles] at late
  have mapped : (atMark s).spindles = (mapSpindles contextAtMark allSpindles (lateAtMark (markSent s))).spindles := rfl
  rw [mapped, spindles_mapSpindles _ nodup_allSpindles, if_pos (mem_allSpindles n), (lateAtMark_raises s).spindles, late]
  rfl

theorem atMark_link (s : State) (p : Port) :
    linkOf (atMark s) p = linkOf (answerAndRemove (dueAtMark s) .heldLate (markSent s)) p :=
  linkOf_congr p ((atMark_later s).links.trans (lateAtMark_raises s).links)

set_option Elab.async false in
theorem atMark_other {p : Port} (hp : ∀ n, p ≠ .s n) (s : State) : linkOf (atMark s) p = linkOf s p := by
  rw [atMark_link, (lateAtMark_answers s).others p hp, markSent_other hp]

theorem atMark_spindle (n : Fin 6) (up : portUp s (.s n) = true) : (linkOf (atMark s) (.s n)).toSend
    = (linkOf s (.s n)).toSend ++ .frameMark (s.time.frame + 1) s.time.machineTime
        :: heldReplies .heldLate (s.time.frame + 1) (s.spindles[n]'n.2).held (ofSpindle n (lateRecords s)) := by
  have sent := markSent_spindle n s
  rw [if_pos up] at sent
  have up' : portUp (markSent s) (.s n) = true := by rw [portUp, sent]; exact up
  rw [atMark_link, (lateAtMark_answers s).links n, if_pos up', sent, repliesBy_min, markSent_time,
    (markSent_unchanged s).queries, (markSent_unchanged s).spindles]
  simp [timeAtMark, lateRecords]

theorem atMark_records (s : State) : (atMark s).queries.records = s.queries.records.filter (fun r => r.due != s.time.frame + 1) := by
  rw [(atMark_later s).queries, (lateAtMark_raises s).queries, (lateAtMark_answers s).queries, (markSent_unchanged s).queries]
  rfl

theorem atMark_counters (s : State) {k : Fin 28} (hk : k ≠ cntDeadline) : (atMark s).counters[k]
    = if cntHeldLate = k then s.counters[k]'k.2 + BitVec.ofNat 32 (lateRecords s).length else s.counters[k]'k.2 := by
  rw [(atMark_later s).counters, (lateAtMark_raises s).counters, (lateAtMark_answers s).counted cntHeldLate k rfl hk,
    (markSent_unchanged s).counters, (markSent_unchanged s).queries]
  rfl

theorem atMark_notices (s : State) : (atMark s).notices
    = if ∃ r ∈ s.queries.records, r.due = s.time.frame + 1 then { s.notices with pending := s.notices.pending ||| srcLateReply }
      else s.notices := by
  have kept : (answerAndRemove (dueAtMark s) .heldLate (markSent s)).notices = s.notices := by
    rw [(lateAtMark_answers s).unchanged.notices, (markSent_unchanged s).notices]
  have any : s.queries.records.any (dueAtMark s) = true ↔ ∃ r ∈ s.queries.records, r.due = s.time.frame + 1 := by
    simp [dueAtMark]
  rw [(atMark_later s).notices, lateAtMark_markSent]
  by_cases h : ∃ r ∈ s.queries.records, r.due = s.time.frame + 1
  · rw [if_pos h, if_pos (any.mpr h), raise_notices, kept]
  · rw [if_neg h, if_neg (mt any.mp h), kept]

theorem atMark_sched (s : State) : (atMark s).sched.windowAge = (if s.sched.windowIssued then 0 else min (s.sched.windowAge + 1) 255)
    ∧ (atMark s).sched.windowIssued = false := by
  have kept : (mapSpindles contextAtMark allSpindles (lateAtMark (markSent s))).sched
      = { s.sched with deadline := (answerAndRemove (dueAtMark s) .heldLate (markSent s)).sched.deadline } := by
    rw [(mapSpindles_unchanged _ _ _).sched, (lateAtMark_raises s).sched, (lateAtMark_answers s).sched,
      (markSent_unchanged s).sched]
  refine ⟨?_, rfl⟩
  show (ageAtMark (mapSpindles contextAtMark allSpindles (lateAtMark (markSent s))).sched).windowAge = _
  rw [kept]
  rfl

theorem atMark_unchanged (s : State) :
    Unchanged [.time, .links, .spindles, .queries, .counters, .port, .sched, .notices] s (atMark s) :=
  ((((markSent_unchanged s).mono (by decide)).andThen (lateAtMark_answers s).unchanged).andThen (lateAtMark_raises s)).andThen
    (atMark_later s)

/-! ### The open chunk and the notice interval (R156, R176) -/

theorem holdChunkAtMark_none (h : s.window = none) : holdChunkAtMark s = s := by simp [holdChunkAtMark, h]

theorem holdChunkAtMark_empty (h : s.window = some w) (hc : w.chunk = []) : holdChunkAtMark s = s := by
  simp [holdChunkAtMark, h, hc]

theorem holdChunkAtMark_open (h : s.window = some w) (hc : w.chunk ≠ []) : holdChunkAtMark s =
    if s.settings.chunkHold ≤ w.hold + 1 then sendChunk (s.setWindow (some { w with hold := w.hold + 1 }))
    else s.setWindow (some { w with hold := w.hold + 1 }) := by
  have filled : w.chunk.isEmpty = false := by simpa using hc
  simp only [holdChunkAtMark, h, filled, Bool.false_eq_true, if_false]

theorem sendChunk_window (h : s.window = some w) : (sendChunk s).window = some { w with
    chunk := [], hold := 0, nextIndex := w.nextIndex + 1,
    waiting := if portUp s .c = true then w.waiting + 1 else w.waiting } := by
  simp only [sendChunk, h]
  rfl

theorem sendChunk_toSend (h : s.window = some w) (up : portUp s .c = true) : (linkOf (sendChunk s) .c).toSend
    = (linkOf s .c).toSend ++ [.windowChunk w.tag w.nextIndex w.chunk] := by
  rw [sendChunk_sent up h, linkOf_sentC]

theorem onlySentOnC_holdChunkAtMark (s : State) : OnlySentOnC s (holdChunkAtMark s) := by
  cases h : s.window with
  | none => rw [holdChunkAtMark_none h]; exact .of_links rfl
  | some w =>
    by_cases hc : w.chunk = []
    · rw [holdChunkAtMark_empty h hc]; exact .of_links rfl
    · rw [holdChunkAtMark_open h hc]
      have held : OnlySentOnC s (s.setWindow (some { w with hold := w.hold + 1 })) := .of_links rfl
      split
      · exact held.trans (onlySentOnC_sendChunk _)
      · exact held

/-- Whether the interval has run out at this mark. -/
def IntervalOut (s : State) : Prop := s.settings.noticeInterval ≤ s.notices.interval + 1

/-- Whether the unit sends once the interval has run out. -/
def NoticeWanted (s : State) : Prop := s.notices.pending &&& s.settings.noticeEnables ≠ 0 ∨ s.settings.alwaysSend = true

theorem noticeAtMark_sends (h : IntervalOut s) (wanted : NoticeWanted s) :
    noticeAtMark s = makeNotice (s.setNotices { s.notices with interval := 0 }) :=
  (if_pos h).trans (if_pos wanted)

theorem noticeAtMark_quiet (h : IntervalOut s) (not_wanted : ¬ NoticeWanted s) :
    noticeAtMark s = s.setNotices { s.notices with interval := 0 } :=
  (if_pos h).trans (if_neg not_wanted)

set_option Elab.async false in
theorem noticeAtMark_counts (h : ¬ IntervalOut s) :
    noticeAtMark s = s.setNotices { s.notices with interval := s.notices.interval + 1 } := if_neg h

theorem noticeAtMark_notices (s : State) : (noticeAtMark s).notices = { s.notices with
    interval := if s.settings.noticeInterval ≤ s.notices.interval + 1 then 0 else s.notices.interval + 1 } := by
  by_cases h : IntervalOut s
  · rw [if_pos (show s.settings.noticeInterval ≤ s.notices.interval + 1 from h)]
    by_cases wanted : NoticeWanted s
    · rw [noticeAtMark_sends h wanted, makeNotice, (send_unchanged _ _ _).notices]
      rfl
    · rw [noticeAtMark_quiet h wanted]
      rfl
  · rw [if_neg (show ¬ s.settings.noticeInterval ≤ s.notices.interval + 1 from h), noticeAtMark_counts h]
    rfl

theorem onlySentOnC_noticeAtMark (s : State) : OnlySentOnC s (noticeAtMark s) := by
  by_cases h : IntervalOut s
  · by_cases wanted : NoticeWanted s
    · rw [noticeAtMark_sends h wanted]
      exact OnlySentOnC.trans (t := s.setNotices { s.notices with interval := 0 }) (.of_links rfl) (onlySentOnC_send _ _)
    · rw [noticeAtMark_quiet h wanted]
      exact .of_links rfl
  · rw [noticeAtMark_counts h]
    exact .of_links rfl

/-- What the notice interval sends is no chunk. -/
theorem noticeAtMark_no_chunk (s : State) : ∃ more, (linkOf (noticeAtMark s) .c).toSend = (linkOf s .c).toSend ++ more
    ∧ ∀ r ∈ more, r.isChunk = false := by
  by_cases h : IntervalOut s
  · by_cases wanted : NoticeWanted s
    · rw [noticeAtMark_sends h wanted, makeNotice, linkOf_send_same]
      split
      · exact ⟨[_], rfl, by simp [OutRecord.isChunk]⟩
      · exact ⟨[], (List.append_nil _).symm, by simp⟩
    · rw [noticeAtMark_quiet h wanted]
      exact ⟨[], (List.append_nil _).symm, by simp⟩
  · rw [noticeAtMark_counts h]
    exact ⟨[], (List.append_nil _).symm, by simp⟩

theorem takeMark_later (s : State) : Unchanged [.links, .window, .notices, .counters] (atMark s) (takeMark s) := by
  rw [takeMark_eq]
  exact (((holdChunkAtMark_unchanged _).mono (by decide)).andThen (noticeAtMark_unchanged _)).andThen (countBy_unchanged _ _ _)

theorem takeMark_links (s : State) : (takeMark s).links = (noticeAtMark (holdChunkAtMark (atMark s))).links := by
  rw [takeMark_eq, (countBy_unchanged _ _ _).links]

theorem takeMark_spindle_link (s : State) (p : Port) (hp : p ≠ .c) : linkOf (takeMark s) p = linkOf (atMark s) p := by
  rw [linkOf_congr p (takeMark_links s)]
  exact ((onlySentOnC_holdChunkAtMark _).trans (onlySentOnC_noticeAtMark _)).2 p hp

theorem takeMark_window (s : State) : (takeMark s).window = (holdChunkAtMark (atMark s)).window := by
  rw [takeMark_eq, (countBy_unchanged _ _ _).window, (noticeAtMark_unchanged _).window]

theorem takeMark_notices (s : State) : (takeMark s).notices = { (atMark s).notices with
    interval := if s.settings.noticeInterval ≤ s.notices.interval + 1 then 0 else s.notices.interval + 1 } := by
  have interval : (atMark s).notices.interval = s.notices.interval := by rw [atMark_notices]; split <;> rfl
  rw [takeMark_eq, (countBy_unchanged _ _ _).notices, noticeAtMark_notices, (holdChunkAtMark_unchanged _).notices,
    (holdChunkAtMark_unchanged _).settings, (atMark_unchanged s).settings, interval]

theorem takeMark_counter (s : State) {k : Fin 28} (hk : cntOccupancy ≠ k) : (takeMark s).counters[k] = (atMark s).counters[k] := by
  have kept : (noticeAtMark (holdChunkAtMark (atMark s))).counters = (atMark s).counters := by
    rw [(noticeAtMark_unchanged _).counters, (holdChunkAtMark_unchanged _).counters]
  rw [takeMark_eq, countBy]
  refine (getElem_set_counter _ _).trans ?_
  rw [if_neg hk, kept]

/-- No record due at the new frame counts as beyond it. -/
theorem occupancy_eq (s : State) : occupancyAtMark (noticeAtMark (holdChunkAtMark (atMark s)))
    = s.queries.records.countP (fun r => 0 < (r.due - (s.time.frame + 1)).toInt) := by
  have frame : (noticeAtMark (holdChunkAtMark (atMark s))).time.frame = s.time.frame + 1 := by
    rw [(noticeAtMark_unchanged _).time, (holdChunkAtMark_unchanged _).time, (atMark_later s).time, (lateAtMark_raises s).time,
      (lateAtMark_answers s).unchanged.time, markSent_time]
    rfl
  rw [occupancyAtMark, frame, (noticeAtMark_unchanged _).queries, (holdChunkAtMark_unchanged _).queries, atMark_records,
    List.countP_filter]
  refine List.countP_congr fun r _ => ?_
  simp only [Bool.and_eq_true, decide_eq_true_eq, bne_iff_ne, and_iff_left_iff_imp]
  intro beyond due
  rw [due, BitVec.sub_self] at beyond
  exact absurd beyond (by decide)

theorem takeMark_occupancy (s : State) : (takeMark s).counters[cntOccupancy]'cntOccupancy.2 = s.counters[cntOccupancy]'cntOccupancy.2
    + BitVec.ofNat 32 (s.queries.records.countP (fun r => 0 < (r.due - (s.time.frame + 1)).toInt)) := by
  have kept : (noticeAtMark (holdChunkAtMark (atMark s))).counters[cntOccupancy] = s.counters[cntOccupancy]'cntOccupancy.2 := by
    rw [(noticeAtMark_unchanged _).counters, (holdChunkAtMark_unchanged _).counters, atMark_counters s (by decide),
      if_neg (by decide)]
  rw [takeMark_eq, countBy]
  refine (getElem_set_counter _ _).trans ?_
  rw [if_pos rfl, kept, occupancy_eq]

end Mark

/-! ### A context at the mark (R68) -/

section Context

variable {c : Context}

/-- Whether a release falls due at a mark, by the condition and the flag (R67, R68). -/
def ReleaseFallsDue (c : Context) : Prop :=
  c.release = .nextMark ∨ ((c.release = .afterAlarm0 ∨ c.release = .afterAlarm1) ∧ c.alarmFired = true)

theorem releaseDue_iff : releaseDue c = true ↔ ReleaseFallsDue c := by
  unfold releaseDue ReleaseFallsDue
  cases h : c.release <;> simp

theorem releaseAtMark_due (h : ReleaseFallsDue c) : releaseAtMark c = { c with
    active := c.staged, release := .none, alarmFired := false,
    state := if c.state = .retracted then .retracted else followSheet c.staged } := if_pos (releaseDue_iff.mpr h)

set_option Elab.async false in
theorem releaseAtMark_not_due (h : ¬ ReleaseFallsDue c) : releaseAtMark c = c := if_neg (mt releaseDue_iff.mp h)

theorem correctAtMark_eq (c : Context) :
    correctAtMark c = { c with correction := c.pendingCorrection.getD c.correction, pendingCorrection := none } := by
  unfold correctAtMark
  split
  · rename_i x h
    rw [h]
    rfl
  · rename_i h
    rw [h]
    exact congrArg (fun p => { c with pendingCorrection := p }) h

theorem resumeAtMark_eq (c : Context) : resumeAtMark c = { c with
    resumePending := false, state := if c.resumePending = true then followSheet c.active else c.state } := by
  unfold resumeAtMark
  split
  · rfl
  · rename_i h
    have no : c.resumePending = false := Bool.eq_false_iff.mpr h
    exact congrArg (fun p => { c with resumePending := p }) no

theorem contextAtMark_eq (c : Context) : contextAtMark c = { releaseAtMark c with
    correction := (releaseAtMark c).pendingCorrection.getD (releaseAtMark c).correction, pendingCorrection := none,
    resumePending := false,
    state := if (releaseAtMark c).resumePending = true then followSheet (releaseAtMark c).active
      else (releaseAtMark c).state } := by
  rw [contextAtMark, correctAtMark_eq, resumeAtMark_eq]

theorem releaseAtMark_kept (c : Context) : (releaseAtMark c).held = c.held ∧ (releaseAtMark c).staged = c.staged
    ∧ (releaseAtMark c).correction = c.correction ∧ (releaseAtMark c).pendingCorrection = c.pendingCorrection
    ∧ (releaseAtMark c).resumePending = c.resumePending := by
  unfold releaseAtMark
  split
  · exact ⟨rfl, rfl, rfl, rfl, rfl⟩
  · exact ⟨rfl, rfl, rfl, rfl, rfl⟩

theorem contextAtMark_held (c : Context) : (contextAtMark c).held = c.held := by
  rw [contextAtMark_eq]
  exact (releaseAtMark_kept c).1

/-- What a mark makes of a context (R68). -/
def MarkedContext (c d : Context) : Prop :=
  d.staged = c.staged
    ∧ (ReleaseFallsDue c → d.active = c.staged ∧ d.release = .none ∧ d.alarmFired = false)
    ∧ (¬ ReleaseFallsDue c → d.active = c.active ∧ d.release = c.release ∧ d.alarmFired = c.alarmFired)
    ∧ d.correction = c.pendingCorrection.getD c.correction ∧ d.pendingCorrection = none ∧ d.resumePending = false
    ∧ (c.state = .retracted → c.resumePending = false → d.state = .retracted)
    ∧ (c.resumePending = true ∨ (ReleaseFallsDue c ∧ c.state ≠ .retracted) →
        d.state = if d.active.sheet.isSome then .bound else .unbound)
    ∧ (¬ ReleaseFallsDue c → c.resumePending = false → d.state = c.state)

theorem markedContext_due (h : ReleaseFallsDue c) : MarkedContext c (contextAtMark c) := by
  rw [contextAtMark_eq, releaseAtMark_due h]
  refine ⟨rfl, fun _ => ⟨rfl, rfl, rfl⟩, fun no => absurd h no, rfl, rfl, rfl, fun retracted live => ?_, fun moves => ?_,
    fun no => absurd h no⟩
  · simp only [live, retracted, Bool.false_eq_true, if_false, if_true]
  · by_cases resumed : c.resumePending = true
    · simp only [resumed, if_true]
      rfl
    · obtain ⟨-, live⟩ := moves.resolve_left resumed
      simp only [if_neg resumed, if_neg live]
      rfl

theorem markedContext_not_due (h : ¬ ReleaseFallsDue c) : MarkedContext c (contextAtMark c) := by
  rw [contextAtMark_eq, releaseAtMark_not_due h]
  refine ⟨rfl, fun due => absurd due h, fun _ => ⟨rfl, rfl, rfl⟩, rfl, rfl, rfl, fun retracted live => ?_, fun moves => ?_,
    fun _ live => ?_⟩
  · simp only [live, retracted, Bool.false_eq_true, if_false]
  · have resumed := moves.resolve_right fun due => h due.1
    simp only [resumed, if_true]
    rfl
  · simp only [live, Bool.false_eq_true, if_false]

theorem markedContext_contextAtMark (c : Context) : MarkedContext c (contextAtMark c) := by
  by_cases h : ReleaseFallsDue c
  · exact markedContext_due h
  · exact markedContext_not_due h

end Context

/-- The open chunk at the mark, and what then goes out on Port C (R156). -/
theorem holdChunk_noticed {a : State} {w : WindowRead} (h : a.window = some w) :
    (w.chunk = [] → (holdChunkAtMark a).window = some w)
    ∧ (w.chunk ≠ [] → w.hold + 1 < a.settings.chunkHold → (holdChunkAtMark a).window = some { w with hold := w.hold + 1 })
    ∧ (w.chunk ≠ [] → a.settings.chunkHold ≤ w.hold + 1 →
        (holdChunkAtMark a).window = some { w with
          chunk := [], hold := 0, nextIndex := w.nextIndex + 1,
          waiting := if portUp a .c = true then w.waiting + 1 else w.waiting }
        ∧ (portUp a .c = true → ∃ more, (linkOf (noticeAtMark (holdChunkAtMark a)) .c).toSend = (linkOf a .c).toSend
            ++ .windowChunk w.tag w.nextIndex w.chunk :: more ∧ ∀ r ∈ more, r.isChunk = false)) := by
  refine ⟨fun hc => ?_, fun hc below => ?_, fun hc out => ?_⟩
  · rw [holdChunkAtMark_empty h hc, h]
  · rw [holdChunkAtMark_open h hc, if_neg (Nat.not_le.mpr below)]
    rfl
  · rw [holdChunkAtMark_open h hc, if_pos out]
    refine ⟨sendChunk_window (s := a.setWindow (some { w with hold := w.hold + 1 })) (w := { w with hold := w.hold + 1 }) rfl, fun up => ?_⟩
    obtain ⟨more, sent, no_chunk⟩ := noticeAtMark_no_chunk (sendChunk (a.setWindow (some { w with hold := w.hold + 1 })))
    refine ⟨more, ?_, no_chunk⟩
    rw [sent, sendChunk_toSend (s := a.setWindow (some { w with hold := w.hold + 1 })) (w := { w with hold := w.hold + 1 }) rfl up, List.append_assoc]
    rfl

theorem takeMark_window_some {s : State} {w : WindowRead} (h : s.window = some w) :
    (w.chunk = [] → (takeMark s).window = some w)
    ∧ (w.chunk ≠ [] → w.hold + 1 < s.settings.chunkHold → (takeMark s).window = some { w with hold := w.hold + 1 })
    ∧ (w.chunk ≠ [] → s.settings.chunkHold ≤ w.hold + 1 →
        (takeMark s).window = some { w with
          chunk := [], hold := 0, nextIndex := w.nextIndex + 1,
          waiting := if portUp s .c = true then w.waiting + 1 else w.waiting }
        ∧ (portUp s .c = true → ∃ more, (linkOf (takeMark s) .c).toSend = (linkOf s .c).toSend
            ++ .windowChunk w.tag w.nextIndex w.chunk :: more ∧ ∀ r ∈ more, r.isChunk = false)) := by
  have cell : linkOf (atMark s) .c = linkOf s .c := atMark_other (fun _ => Port.noConfusion) s
  have up : portUp (atMark s) .c = portUp s .c := congrArg Link.up cell
  have noticed := holdChunk_noticed (a := atMark s) ((atMark_unchanged s).window.trans h)
  rwa [(atMark_unchanged s).settings, up, cell, ← takeMark_window, ← linkOf_congr .c (takeMark_links s)] at noticed

set_option Elab.async false in
/-- The notice interval (R176). -/
theorem noticeAtMark_link {a : State} :
    (¬ IntervalOut a → linkOf (noticeAtMark a) .c = linkOf a .c)
    ∧ (IntervalOut a → portUp a .c = true → NoticeWanted a → (linkOf (noticeAtMark a) .c).toSend = (linkOf a .c).toSend
        ++ [.notice (a.notices.pending &&& a.settings.noticeEnables) a.time.frame (modeOf a)]) := by
  refine ⟨fun counts => ?_, fun out up wanted => ?_⟩
  · rw [noticeAtMark_counts counts]
    rfl
  · rw [noticeAtMark_sends out wanted, makeNotice, toSend_send (s := a.setNotices { a.notices with interval := 0 }) _ up]
    rfl

theorem takeMark_link_cell {s : State} (h : s.window = none) :
    (¬ IntervalOut s → linkOf (takeMark s) .c = linkOf s .c)
    ∧ (IntervalOut s → portUp s .c = true →
        s.settings.alwaysSend = true ∨ (takeMark s).notices.pending &&& s.settings.noticeEnables ≠ 0 →
        (linkOf (takeMark s) .c).toSend = (linkOf s .c).toSend
          ++ [.notice ((takeMark s).notices.pending &&& s.settings.noticeEnables) (s.time.frame + 1) (modeOf (takeMark s))]) := by
  have same := atMark_unchanged s
  have still : holdChunkAtMark (atMark s) = atMark s := holdChunkAtMark_none (same.window.trans h)
  have cell : linkOf (atMark s) .c = linkOf s .c := atMark_other (fun _ => Port.noConfusion) s
  have up : portUp (atMark s) .c = portUp s .c := congrArg Link.up cell
  have interval : (atMark s).notices.interval = s.notices.interval := by rw [atMark_notices]; split <;> rfl
  have out : IntervalOut (atMark s) ↔ IntervalOut s := by rw [IntervalOut, interval, same.settings, IntervalOut]
  have pending : (takeMark s).notices.pending = (atMark s).notices.pending := by rw [takeMark_notices]
  have mode : modeOf (takeMark s) = modeOf (atMark s) := by rw [modeOf, (takeMark_later s).sched, modeOf]
  have frame : (atMark s).time.frame = s.time.frame + 1 := by
    rw [← (takeMark_later s).time, takeMark_time]
    rfl
  obtain ⟨counts, sends⟩ := noticeAtMark_link (a := atMark s)
  rw [out, cell] at counts
  rw [out, cell, up, NoticeWanted, same.settings, frame, ← mode, ← pending] at sends
  rw [linkOf_congr .c (takeMark_links s), still]
  exact ⟨counts, fun runs_out isUp wanted => sends runs_out isUp wanted.symm⟩

/-- Settles O37. -/
theorem frameMarkBeginsTheNextFrame : Obligations.FrameMarkBeginsTheNextFrame := by
  unfold Obligations.FrameMarkBeginsTheNextFrame
  refine ⟨fun s hr => ⟨fun due => ⟨takeMark s, takeEvent_due hr due, ?_⟩, fun idle => takeEvent_not_due hr idle⟩,
    fun s hr due => ⟨takeMark s, takeEvent_due hr due, takeMark_occupancy s, by rw [takeMark_notices], fun below none_ => ?_,
      fun out none_ => (takeMark_link_cell none_).2 out⟩⟩
  · have late (n : Fin 6) : s.queries.records.filter (fun r => r.spindle == n && r.due == s.time.frame + 1)
        = ofSpindle n (lateRecords s) := by
      rw [ofSpindle, lateRecords, List.filter_filter]
      rfl
    rw [takeMark_time]
    refine ⟨rfl, rfl, rfl, rfl, rfl, ?_, rfl, rfl, rfl, ?_, fun n => ?_, fun none_ => ?_, fun w hw => takeMark_window_some hw,
      ?_, fun some_late => ?_, ?_, ?_, (takeMark_unchanged s).mono (by decide)⟩
    · simp [timeAtMark]
    · rw [(takeMark_later s).queries, atMark_records]
    · rw [late]
      refine ⟨?_, fun up => ?_⟩
      · rw [(takeMark_later s).spindles, atMark_spindles, contextAtMark_held]
      · rw [takeMark_spindle_link s _ (by simp), atMark_spindle n up]
    · rw [takeMark_window, holdChunkAtMark_none ((atMark_unchanged s).window.trans none_), (atMark_unchanged s).window, none_]
    · have count {k : Fin 28} (hk : cntOccupancy ≠ k) (hk' : k ≠ cntDeadline) := (takeMark_counter s hk).trans (atMark_counters s hk')
      refine ⟨?_, ?_, ?_, ?_, ?_⟩
      · rw [count (by decide) (by decide), if_neg (by decide), BitVec.add_zero]
      · rw [count (by decide) (by decide), if_neg (by decide), BitVec.add_zero]
      · rw [count (by decide) (by decide), if_neg (by decide), BitVec.add_zero]
      · rw [count (by decide) (by decide), if_pos rfl, lateRecords, ← List.countP_eq_length_filter]
        rfl
      · rw [count (by decide) (by decide), if_neg (by decide), BitVec.add_zero]
    · rw [takeMark_notices, atMark_notices, if_pos some_late]
    · rw [(takeMark_later s).sched, (atMark_sched s).1]
    · rw [(takeMark_later s).sched, (atMark_sched s).2]
  · exact (takeMark_link_cell none_).1 (Nat.not_le.mpr below)

/-- Settles O38. -/
theorem frameMarkCarriesOutReleases : Obligations.FrameMarkCarriesOutReleases := by
  unfold Obligations.FrameMarkCarriesOutReleases
  intro s hr due
  refine ⟨takeMark s, takeEvent_due hr due, fun n => ?_⟩
  have context : (takeMark s).spindles[n] = contextAtMark
      { s.spindles[n]'n.2 with held := heldAfter (s.spindles[n]'n.2).held (ofSpindle n (lateRecords s)) } := by
    rw [(takeMark_later s).spindles, atMark_spindles]
  have on_time : (∀ r ∈ s.queries.records, r.spindle = n → r.due ≠ s.time.frame + 1) →
      heldAfter (s.spindles[n]'n.2).held (ofSpindle n (lateRecords s)) = (s.spindles[n]'n.2).held := by
    intro none_late
    have none_ : ofSpindle n (lateRecords s) = [] := by
      refine List.filter_eq_nil_iff.mpr fun r hr => ?_
      obtain ⟨mem, late⟩ := List.mem_filter.mp hr
      simpa using fun mine => none_late r mem mine (eq_of_beq late)
    rw [none_, heldAfter_nil]
  rw [context]
  obtain ⟨staged, due_, not_due, correction, pending, resume, retracted, moves, stays⟩ := markedContext_contextAtMark
    { s.spindles[n]'n.2 with held := heldAfter (s.spindles[n]'n.2).held (ofSpindle n (lateRecords s)) }
  exact ⟨staged, due_, not_due, correction, pending, resume, retracted, moves, stays,
    fun none_late => (contextAtMark_held _).trans (on_time none_late)⟩

end Sys2Proof.Machine
end

section
/-! SUPPORT. A port goes DOWN and the owners of its state act (R161): by loss of carrier, and by the eighth bad record (R165). -/

namespace Sys2Proof.Machine

/- A proof is elaborated in a task of its own. `set_option Elab.async false in` before a theorem makes the compile wait there
for the proofs before it, so that only a few are under way at a time; the linters, which would keep every proof's syntax
tree, are off, so that the compile of the whole text stays within its memory. -/
set_option linter.all false

open Sys2Proof

/-! ### The port itself -/

section Down

variable {s t : State} {p : Port} {n : Fin 6}

/-- The port DOWN with nothing left to send, LINK_CHANGE set; its owners have yet to act. -/
def downLink (p : Port) (s : State) : State :=
  raise srcLinkChange (setLink p { up := false, idle := 0, bad := 0, toSend := [] } s)

theorem linkDown_eq (p : Port) (s : State) : linkDown p s = ownersOnDown p (downLink p s) := rfl

theorem downLink_notices (p : Port) (s : State) :
    (downLink p s).notices = { s.notices with pending := s.notices.pending ||| srcLinkChange } := raise_notices _ _

theorem downLink_unchanged (p : Port) (s : State) : Unchanged [.links, .notices] s (downLink p s) :=
  ((setLink_unchanged _ _ s).mono (by decide)).andThen (raise_unchanged _ _)

theorem downLink_link (p : Port) (s : State) : linkOf (downLink p s) p = { up := false, idle := 0, bad := 0, toSend := [] } :=
  (linkOf_congr p (raise_links (by decide))).trans (linkOf_setLink_same p _ s)

theorem downLink_other {p' : Port} (h : p' ≠ p) (s : State) : linkOf (downLink p s) p' = linkOf s p' :=
  (linkOf_congr p' (raise_links (by decide))).trans (linkOf_setLink_other _ h)

/-- Whether the READ in flight has lost its owner, as the owners find it. -/
def lostTo (p : Port) (s : State) (o : InFlight) : Bool :=
  match p with
  | .c => ownedByWindow o
  | .t => false
  | .s n => ownedBy (s.queries.records.filter (fun r => r.spindle == n)) o

theorem ownedBy_iff {rs : List QueryRecord} {o : InFlight} :
    ownedBy rs o = true ↔ ∃ tile word seq index, o.op = .read tile word (.fetch seq index) ∧ ∃ r ∈ rs, r.seq = seq := by
  unfold ownedBy
  split
  · rename_i tile word seq index e
    rw [List.any_eq_true]
    refine ⟨fun ⟨r, hr, h⟩ => ⟨tile, word, seq, index, e, r, hr, eq_of_beq h⟩, fun ⟨_, _, _, _, e', r, hr, h⟩ => ?_⟩
    cases e.symm.trans e'
    exact ⟨r, hr, beq_iff_eq.mpr h⟩
  · rename_i other
    refine iff_of_false Bool.false_ne_true fun ⟨tile, word, seq, index, e, _⟩ => other tile word seq index e

theorem lostTo_iff {o : InFlight} : lostTo p s o = true ↔ ReadLost p s o := by
  cases p with
  | c => exact ownedByWindow_iff
  | t => exact iff_of_false Bool.false_ne_true id
  | s n =>
    refine ownedBy_iff.trans ⟨fun ⟨tile, word, seq, index, e, r, hr, h⟩ => ?_, fun ⟨tile, word, seq, index, e, r, hr, mine, h⟩ => ?_⟩
    · obtain ⟨mem, mine⟩ := List.mem_filter.mp hr
      exact ⟨tile, word, seq, index, e, r, mem, eq_of_beq mine, h⟩
    · exact ⟨tile, word, seq, index, e, r, List.mem_filter.mpr ⟨hr, beq_iff_eq.mpr mine⟩, h⟩

/-- The part of `TakenDown` that holds whichever port has gone DOWN. -/
structure DownAlways (p : Port) (s t : State) : Prop where
  link : linkOf t p = { up := false, idle := 0, bad := 0, toSend := [] }
  others : ∀ p', p' ≠ p → linkOf t p' = linkOf s p'
  pending : t.notices.pending.getLsbD 7 = true
  port : t.port = (discardInFlight (lostTo p s) s).port
  replies : RepliesCounted 0 0 0 0 0 s t
  unchanged : Unchanged [.links, .notices, .counters, .port, .sched, .sheets, .ingest, .spindles, .queries, .window, .cellQueue] s t

theorem DownAlways.idle (h : DownAlways p s t) (none_ : s.port.inFlight = none) : t.port = s.port := by
  rw [h.port, discardInFlight_idle none_]

theorem DownAlways.flying (h : DownAlways p s t) (o : InFlight) (ho : s.port.inFlight = some o) :
    (ReadLost p s o → t.port = { s.port with inFlight := some { o with discard := true } })
      ∧ (¬ ReadLost p s o → t.port = s.port) := by
  rw [h.port, ← lostTo_iff]
  refine ⟨fun lost => ?_, fun kept => ?_⟩
  · rw [discardInFlight_of ho lost]
    rfl
  · rw [discardInFlight_not ho (Bool.eq_false_iff.mpr kept)]

theorem discardInFlight_port_congr {f : InFlight → Bool} (h : t.port = s.port) :
    (discardInFlight f t).port = (discardInFlight f s).port := by
  cases ho : s.port.inFlight with
  | none => rw [discardInFlight_idle ho, discardInFlight_idle (by rw [h, ho]), h]
  | some o =>
    cases hf : f o with
    | true => rw [discardInFlight_of ho hf, discardInFlight_of (by rw [h, ho]) hf, setInFlight, setInFlight, h]; rfl
    | false => rw [discardInFlight_not ho hf, discardInFlight_not (by rw [h, ho]) hf, h]

theorem discardInFlight_none (s : State) : discardInFlight (fun _ => false) s = s := by
  cases ho : s.port.inFlight with
  | none => exact discardInFlight_idle ho
  | some o => exact discardInFlight_not ho rfl

set_option Elab.async false in
theorem pending_linkChange {x : SourceSet} : (x ||| srcLinkChange).getLsbD 7 = true := by
  rw [BitVec.getLsbD_or]
  exact Bool.or_eq_true_iff.mpr (.inr (by decide))

/-! ### Port C (R22, R159, R173) -/

theorem cellPortDown_always (s : State) : DownAlways .c s (linkDown .c s) := by
  have down := downLink_unchanged .c s
  have acts : Unchanged [.port, .window, .cellQueue, .sheets] (downLink .c s) (linkDown .c s) := cellPortDown_unchanged _
  refine ⟨(linkOf_congr _ acts.links).trans (downLink_link .c s),
    fun p' hp => (linkOf_congr p' acts.links).trans (downLink_other hp s), ?_, ?_, ?_,
    (down.mono (by decide)).andThen acts⟩
  · rw [acts.notices, downLink_notices]
    exact pending_linkChange
  · show (discardInFlight ownedByWindow (downLink .c s)).port = (discardInFlight ownedByWindow s).port
    exact discardInFlight_port_congr down.port
  · refine repliesCounted_of_same fun k _ => ?_
    rw [acts.counters, down.counters]

/-! ### Port T (R32, R46) -/

theorem fillingSweep_downLink (p : Port) (s : State) : fillingSweep (downLink p s) = fillingSweep s := by
  rw [fillingSweep, (downLink_unchanged p s).ingest, fillingSweep]

/-- The FILLING sweep rewound LINK, or none to rewind. -/
theorem tracerPortDown (s : State) :
    (fillingSweep s = none ∧ linkDown .t s = downLink .t s)
    ∨ ∃ i w, fillingSweep s = some (i, w) ∧ Rewound i w .link false true true (downLink .t s) (linkDown .t s) := by
  cases hf : fillingSweep s with
  | none => exact .inl ⟨rfl, rewind_none _ _ _ _ ((fillingSweep_downLink .t s).trans hf)⟩
  | some f => exact .inr ⟨f.1, f.2, rfl, rewind_rewound _ _ _ _ ((fillingSweep_downLink .t s).trans hf)⟩

theorem tracerPortDown_always (s : State) : DownAlways .t s (linkDown .t s) := by
  have down := downLink_unchanged .t s
  have link := downLink_link .t s
  have port : s.port = (discardInFlight (lostTo .t s) s).port := by rw [show lostTo .t s = fun _ => false from rfl, discardInFlight_none]
  obtain ⟨-, same⟩ | ⟨i, w, -, back⟩ := tracerPortDown s
  · rw [same]
    refine ⟨link, fun p' hp => downLink_other hp s, ?_, down.port.trans port, repliesCounted_of_same fun k _ => ?_,
      down.mono (by decide)⟩
    · rw [downLink_notices]
      exact pending_linkChange
    · rw [down.counters]
  · refine ⟨(linkOf_congr _ back.links).trans link, fun p' hp => (linkOf_congr p' back.links).trans (downLink_other hp s), ?_,
      (back.unchanged.port.trans down.port).trans port, repliesCounted_of_same fun k hk => ?_,
      (down.mono (by decide)).andThen back.unchanged⟩
    · rw [back.notices, if_pos rfl, downLink_notices, BitVec.getLsbD_or]
      exact Bool.or_eq_true_iff.mpr (.inl pending_linkChange)
    · rw [back.counters, if_pos rfl, down.counters, getElem_set_counter, if_neg]
      rintro rfl
      revert hk
      decide

/-! ### A spindle port (R75, R103) -/

/-- The parts of a spindle port's owners: its records withdrawn, and its context. -/
theorem spindlePortDown_parts (n : Fin 6) (s : State) :
    (linkDown (.s n) s).queries.records = s.queries.records.filter (fun r => r.spindle != n)
    ∧ (linkDown (.s n) s).spindles
        = s.spindles.set n { s.spindles[n]'n.2 with state := .retracted, held := 0, resumePending := false }
    ∧ (linkDown (.s n) s).sched = { s.sched with deadline := (linkDown (.s n) s).sched.deadline }
    ∧ DeadlineLawful (linkDown (.s n) s)
    ∧ (linkDown (.s n) s).counters = (if s.sched.deadline = false ∧ (linkDown (.s n) s).sched.deadline = true
        then s.counters.set cntDeadline (s.counters[cntDeadline]'cntDeadline.2 + 1) else s.counters)
    ∧ (linkDown (.s n) s).port = (discardInFlight (lostTo (.s n) s) s).port
    ∧ Unchanged [.port, .sched, .queries, .counters, .spindles] (downLink (.s n) s) (linkDown (.s n) s) := by
  set u := downLink (.s n) s with hu
  have down : Unchanged [.links, .notices] s u := downLink_unchanged (.s n) s
  set v := removeRecords (fun r => r.spindle == n) u with hv
  have gone : Unchanged [.port, .queries] u v := removeRecords_unchanged _ u
  have ended : linkDown (.s n) s = setSpindle n (retractContext ((judgeDeadline v).spindles[n]'n.2)) (judgeDeadline v) := rfl
  have judged := judgeDeadline_unchanged v
  rw [ended]
  refine ⟨?_, ?_, ?_, deadlineLawful_judgeDeadline v, ?_, ?_, ?_⟩
  · rw [(setSpindle_unchanged _ _ _).queries, judged.queries, hv, removeRecords_queries, down.queries]
    rfl
  · show (judgeDeadline v).spindles.set n (retractContext ((judgeDeadline v).spindles[n]'n.2)) = _
    rw [judged.spindles, gone.spindles, down.spindles]
    rfl
  · rw [(setSpindle_unchanged _ _ _).sched, judgeDeadline_sched, gone.sched, down.sched]
  · rw [(setSpindle_unchanged _ _ _).sched, (setSpindle_unchanged _ _ _).counters, judgeDeadline_counters,
      judgeDeadline_sched, gone.sched, down.sched, gone.counters, down.counters]
  · rw [(setSpindle_unchanged _ _ _).port, judged.port, hv, removeRecords_port, down.queries]
    exact discardInFlight_port_congr down.port
  · exact ((gone.mono (by decide)).andThen judged).andThen (setSpindle_unchanged _ _ _)

theorem spindlePortDown_always (n : Fin 6) (s : State) : DownAlways (.s n) s (linkDown (.s n) s) := by
  have down := downLink_unchanged (.s n) s
  obtain ⟨-, -, -, -, counters, port, acts⟩ := spindlePortDown_parts n s
  refine ⟨(linkOf_congr _ acts.links).trans (downLink_link (.s n) s),
    fun p' hp => (linkOf_congr p' acts.links).trans (downLink_other hp s), ?_, port, repliesCounted_of_same fun k hk => ?_,
    (down.mono (by decide)).andThen acts⟩
  · rw [acts.notices, downLink_notices]
    exact pending_linkChange
  · rw [counters]
    split
    · rw [getElem_set_counter, if_neg]
      rintro rfl
      revert hk
      decide
    · rfl

/-! ### A port taken DOWN (R161) -/

theorem takenDown_cell (s : State) : TakenDown .c s (linkDown .c s) := by
  have always := cellPortDown_always s
  have down := downLink_unchanged .c s
  have acts : Unchanged [.port, .window, .cellQueue, .sheets] (downLink .c s) (linkDown .c s) := cellPortDown_unchanged _
  have same := always.unchanged
  refine ⟨always.link, always.others, always.pending, same.time, same.settings, same.drain, same.buffers, same.mem,
    always.replies, always.idle, always.flying, fun _ => acts.sched.trans down.sched,
    fun _ => acts.counters.trans down.counters, (nomatch ·, ·), fun _ => ?_, (nomatch ·), (nomatch ·, ·)⟩
  refine ⟨rfl, rfl, acts.ingest.trans down.ingest, acts.spindles.trans down.spindles, acts.queries.trans down.queries,
    fun n => ?_⟩
  rw [← sheetAt_congr down.sheets n]
  exact sheetAt_cellPortDown _ _

/-- What Port T's owner leaves, whether or not there was a sweep to rewind. -/
theorem tracerPortDown_kept (s : State) :
    Unchanged [.ingest, .links, .notices, .counters] s (linkDown .t s)
      ∧ (linkDown .t s).ingest.hold = s.ingest.hold ∧ (linkDown .t s).ingest.stray = s.ingest.stray := by
  have down := downLink_unchanged .t s
  obtain ⟨-, same⟩ | ⟨i, w, -, back⟩ := tracerPortDown s
  · rw [same, down.ingest]
    exact ⟨down.mono (by decide), rfl, rfl⟩
  · rw [back.ingest, down.ingest]
    exact ⟨(down.mono (by decide)).andThen back.unchanged, rfl, rfl⟩

theorem takenDown_tracer (s : State) : TakenDown .t s (linkDown .t s) := by
  have always := tracerPortDown_always s
  have down := downLink_unchanged .t s
  have same := always.unchanged
  obtain ⟨kept, hold, stray⟩ := tracerPortDown_kept s
  refine ⟨always.link, always.others, always.pending, same.time, same.settings, same.drain, same.buffers, same.mem,
    always.replies, always.idle, always.flying, fun _ => kept.sched, (nomatch ·), (nomatch ·, ·), (nomatch ·), fun _ => ?_,
    (nomatch ·, ·)⟩
  refine ⟨kept.sheets, kept.spindles, kept.queries, kept.cellQueue, kept.window, hold, stray, fun none_ => ?_,
    fun i w filling => ?_⟩
  · obtain ⟨-, here⟩ | ⟨i, w, some_, -⟩ := tracerPortDown s
    · rw [here]
      exact ⟨down.ingest, down.counters⟩
    · nomatch none_.symm.trans some_
  · obtain ⟨none_, -⟩ | ⟨j, v, some_, back⟩ := tracerPortDown s
    · nomatch none_.symm.trans filling
    · cases filling.symm.trans some_
      refine ⟨by rw [back.ingest, down.ingest], ?_, by rw [back.counters, if_pos rfl, down.counters]⟩
      rw [back.notices, if_pos rfl, BitVec.getLsbD_or]
      exact Bool.or_eq_true_iff.mpr (.inr (by decide))

theorem takenDown_spindle (n : Fin 6) (s : State) : TakenDown (.s n) s (linkDown (.s n) s) := by
  have always := spindlePortDown_always n s
  have down := downLink_unchanged (.s n) s
  have same := always.unchanged
  obtain ⟨records, spindles, sched, lawful, counters, -, acts⟩ := spindlePortDown_parts n s
  have kept : Unchanged [.links, .notices, .port, .sched, .queries, .counters, .spindles] s (linkDown (.s n) s) :=
    (down.mono (by decide)).andThen acts
  refine ⟨always.link, always.others, always.pending, same.time, same.settings, same.drain, same.buffers, same.mem,
    always.replies, always.idle, always.flying, fun other => absurd rfl (other n), (nomatch ·), fun m e => ?_, (nomatch ·),
    (nomatch ·), fun m e => ?_⟩
  · cases e
    exact ⟨sched, lawful, counters⟩
  · cases e
    exact ⟨records, spindles, kept.sheets, kept.ingest, kept.cellQueue, kept.window⟩

theorem takenDown_linkDown (p : Port) (s : State) : TakenDown p s (linkDown p s) := by
  cases p with
  | c => exact takenDown_cell s
  | t => exact takenDown_tracer s
  | s n => exact takenDown_spindle n s

/-- A port going DOWN adds notice sources, and takes none away. -/
theorem linkDown_pending (p : Port) (s : State) :
    ∃ src, (linkDown p s).notices.pending = s.notices.pending ||| src := by
  have down := downLink_notices p s
  cases p with
  | c => exact ⟨srcLinkChange, by rw [linkDown_eq, ownersOnDown, (cellPortDown_unchanged _).notices, down]⟩
  | t =>
    obtain ⟨-, same⟩ | ⟨i, w, -, back⟩ := tracerPortDown s
    · exact ⟨srcLinkChange, by rw [same, down]⟩
    · exact ⟨srcLinkChange ||| srcSweepRewound, by rw [back.notices, if_pos rfl, down, BitVec.or_assoc]⟩
  | s n => exact ⟨srcLinkChange, by rw [linkDown_eq, ownersOnDown, (spindlePortDown_unchanged _ n).notices, down]⟩

end Down

/-- Settles O46. -/
theorem lossOfCarrierTakesThePortDown : Obligations.LossOfCarrierTakesThePortDown := by
  unfold Obligations.LossOfCarrierTakesThePortDown
  intro s p hr up
  refine ⟨linkDown p s, ?_, takenDown_linkDown p s⟩
  have lost : takeLoss p s = linkDown p s := if_pos up
  rw [← lost]
  exact whileRunning_running _ hr

/-! ### Bad records (R165) -/

section Bad

variable {s : State} {p : Port}

/-- A bad record counted on an UP port. -/
def badCounted (p : Port) (s : State) : State :=
  raise srcCheckError (count (cntCheckErrors p) (setLink p { linkOf s p with bad := (linkOf s p).bad + 1 } s))

theorem takeBad_up (up : portUp s p = true) :
    takeBad p s = if 8 ≤ (linkOf s p).bad + 1 then linkDown p (badCounted p s) else badCounted p s := if_pos up

set_option Elab.async false in
theorem takeBad_down (down : portUp s p = false) : takeBad p s = setLink p { linkOf s p with idle := 0 } s :=
  if_neg (Bool.eq_false_iff.mp down)

theorem badCounted_unchanged (p : Port) (s : State) : Unchanged [.links, .counters, .notices] s (badCounted p s) :=
  (((setLink_unchanged _ _ s).mono (by decide)).andThen (count_unchanged _ _)).andThen (raise_unchanged _ _)

theorem badCounted_links (p : Port) (s : State) :
    (badCounted p s).links = (setLink p { linkOf s p with bad := (linkOf s p).bad + 1 } s).links :=
  (raise_links (by decide)).trans (count_unchanged _ _).links

theorem badCounted_link (p : Port) (s : State) : linkOf (badCounted p s) p = { linkOf s p with bad := (linkOf s p).bad + 1 } :=
  (linkOf_congr p (badCounted_links p s)).trans (linkOf_setLink_same p _ s)

theorem badCounted_other {p' : Port} (h : p' ≠ p) (s : State) : linkOf (badCounted p s) p' = linkOf s p' :=
  (linkOf_congr p' (badCounted_links p s)).trans (linkOf_setLink_other _ h)

theorem badCounted_counters (p : Port) (s : State) :
    (badCounted p s).counters = s.counters.set (cntCheckErrors p) (s.counters[cntCheckErrors p]'(cntCheckErrors p).2 + 1) :=
  (raise_unchanged _ _).counters.trans (count_counters_of_eq _ (setLink_unchanged _ _ s).counters)

theorem badCounted_notices (p : Port) (s : State) :
    (badCounted p s).notices = { s.notices with pending := s.notices.pending ||| srcCheckError } := raise_notices _ _

theorem deadline_ne_checkErrors (n : Fin 6) : cntDeadline ≠ cntCheckErrors (.s n) := by
  revert n
  decide

/-- No act of the owners moves the counter of bad records. -/
theorem linkDown_checkErrors (p : Port) (s : State) :
    (linkDown p s).counters[cntCheckErrors p]'(cntCheckErrors p).2 = s.counters[cntCheckErrors p]'(cntCheckErrors p).2 := by
  cases p with
  | c => rw [linkDown_eq, ownersOnDown, (cellPortDown_unchanged _).counters, (downLink_unchanged _ _).counters]
  | t =>
    obtain ⟨-, same⟩ | ⟨i, w, -, back⟩ := tracerPortDown s
    · rw [same, (downLink_unchanged _ _).counters]
    · rw [back.counters, if_pos rfl, (downLink_unchanged _ _).counters, getElem_set_counter, if_neg (by decide)]
  | s n =>
    obtain ⟨-, -, -, -, counters, -⟩ := spindlePortDown_parts n s
    rw [counters]
    split
    · rw [getElem_set_counter, if_neg (deadline_ne_checkErrors n)]
    · rfl

end Bad

set_option Elab.async false in
/-- Settles O47. -/
theorem badRecordsAreCountedAndTheEighthTakesThePortDown : Obligations.BadRecordsAreCountedAndTheEighthTakesThePortDown := by
  unfold Obligations.BadRecordsAreCountedAndTheEighthTakesThePortDown
  intro s p bytes hr
  refine ⟨fun bad up => ?_, fun bad down => ?_, fun good => ?_⟩
  · have counted : (badCounted p s).counters[cntCheckErrors p]'(cntCheckErrors p).2 = s.counters[cntCheckErrors p]'(cntCheckErrors p).2 + 1 := by
      rw [badCounted_counters, getElem_set_counter, if_pos rfl]
    have pending : (badCounted p s).notices.pending.getLsbD 8 = true := by
      rw [badCounted_notices, BitVec.getLsbD_or]
      exact Bool.or_eq_true_iff.mpr (.inr (by decide))
    refine ⟨takeBad p s, takeEvent_due hr (by simp [bad]), ?_, ?_, fun below => ?_, fun eighth => ?_⟩
    · rw [takeBad_up up]
      split
      · rw [linkDown_checkErrors, counted]
      · exact counted
    · rw [takeBad_up up]
      split
      · obtain ⟨src, added⟩ := linkDown_pending p (badCounted p s)
        rw [added, BitVec.getLsbD_or, pending, Bool.true_or]
      · exact pending
    · rw [takeBad_up up, if_neg (Nat.not_le.mpr below)]
      exact ⟨badCounted_link p s, fun p' hp => badCounted_other hp s, badCounted_unchanged p s⟩
    · rw [takeBad_up up, if_pos eighth]
      exact ⟨badCounted p s, badCounted_unchanged p s, badCounted_link p s, fun p' hp => badCounted_other hp s,
        badCounted_counters p s, badCounted_notices p s, takenDown_linkDown p _⟩
  · rw [← takeBad_down down]
    exact takeEvent_due hr (by simp [bad])
  · exact takeEvent_not_due hr (by simpa [← Option.isSome_iff_ne_none] using good)

end Sys2Proof.Machine
end

section
/-! SUPPORT. The codes of a word that the window reader places, one after another (R155, R157). -/

namespace Sys2Proof.Machine

/- A proof is elaborated in a task of its own. `set_option Elab.async false in` before a theorem makes the compile wait there
for the proofs before it, so that only a few are under way at a time; the linters, which would keep every proof's syntax
tree, are off, so that the compile of the whole text stays within its memory. -/
set_option linter.all false

open Sys2Proof

variable {s : State} {w w' : WindowRead} {cs cs' : List Code} {cap : Nat}

/-- Codes placed one after another. -/
def placeCodes (cs : List Code) (s : State) : State := cs.foldl (fun s c => placeCode c s) s

theorem placeCodes_append (cs cs' : List Code) (s : State) : placeCodes (cs ++ cs') s = placeCodes cs' (placeCodes cs s) :=
  List.foldl_append

theorem placeCodes_window_none (cs : List Code) (h : s.window = none) : placeCodes cs s = s := by
  induction cs with
  | nil => rfl
  | cons c cs ih =>
    have still : placeCode c s = s := by simp only [placeCode, h]
    exact (congrArg (placeCodes cs) still).trans ih

theorem capOf_withCodes (h : cs ≠ []) : capOf cap (withCodes cap cs w) = capOf cap w := by
  have some_ : w.chunk ++ cs ≠ [] := by simp [h]
  exact if_neg some_

theorem withCodes_withCodes (h : cs ≠ []) : withCodes cap cs' (withCodes cap cs w) = withCodes cap (cs ++ cs') w := by
  rw [withCodes, capOf_withCodes h]
  simp [withCodes, Nat.add_assoc]

/-- `w'` is the window `w` with the codes `cs` in its open chunk, which more may join. -/
def Joined (cap : Nat) (cs : List Code) (w w' : WindowRead) : Prop :=
  ∀ cs', withCodes cap cs' w' = withCodes cap (cs ++ cs') w

theorem Joined.eq (h : Joined cap cs w w') :
    w' = { w with chunk := w.chunk ++ cs, cap := w'.cap, placed := w.placed + cs.length } := by
  have same := h []
  simp only [withCodes, List.append_nil, List.length_nil, Nat.add_zero, WindowRead.mk.injEq] at same
  cases w'
  simp only [WindowRead.mk.injEq] at same ⊢
  tauto

theorem Joined.capOf (h : Joined cap cs w w') : capOf cap w' = capOf cap w := congrArg WindowRead.cap (h [])

/-- Codes that neither fill the chunk nor complete the window join it, and more may follow. -/
theorem placeCodes_joins (h : s.window = some w) (room : w.chunk.length + cs.length < capOf s.settings.chunkCap w)
    (more : w.placed + cs.length < w.width * w.height) :
    ∃ w', placeCodes cs s = s.setWindow (some w') ∧ Joined s.settings.chunkCap cs w w' := by
  induction cs generalizing s w with
  | nil => exact ⟨w, by rw [← h]; rfl, fun _ => rfl⟩
  | cons c cs ih =>
    simp only [List.length_cons] at room more
    have first : placeCode c s = s.setWindow (some (withCodes s.settings.chunkCap [c] w)) :=
      placeCode_joins h (by omega) (by omega)
    have cap_kept : capOf s.settings.chunkCap (withCodes s.settings.chunkCap [c] w) = capOf s.settings.chunkCap w :=
      capOf_withCodes (by simp)
    have length : (withCodes s.settings.chunkCap [c] w).chunk.length = w.chunk.length + 1 := List.length_append
    have placed : (withCodes s.settings.chunkCap [c] w).placed = w.placed + 1 := rfl
    obtain ⟨w', joins, joined⟩ := ih (s := s.setWindow (some (withCodes s.settings.chunkCap [c] w))) rfl
      (by rw [length]; exact (show _ < _ from cap_kept ▸ (by omega))) (by rw [placed]; exact (show _ < w.width * w.height by omega))
    refine ⟨w', (congrArg (placeCodes cs) first).trans joins, fun cs' => ?_⟩
    exact (joined cs').trans (withCodes_withCodes (by simp))

theorem exists_concat (h : cs ≠ []) : ∃ init c, cs = init ++ [c] := (List.eq_nil_or_concat' cs).resolve_left h

/-- The codes but the last have joined, and the last is placed. -/
theorem placeCodes_concat {init : List Code} {c : Code} (h : s.window = some w)
    (room : w.chunk.length + init.length < capOf s.settings.chunkCap w) (more : w.placed + init.length < w.width * w.height) :
    ∃ w', placeCodes (init ++ [c]) s = placeCode c (s.setWindow (some w')) ∧ Joined s.settings.chunkCap init w w' := by
  obtain ⟨w', joins, joined⟩ := placeCodes_joins h room more
  exact ⟨w', by rw [placeCodes_append, joins]; rfl, joined⟩

/-- Codes that leave room in the chunk, and the window open. -/
theorem placeCodes_join (h : s.window = some w) (hc : cs ≠ [])
    (room : w.chunk.length + cs.length < capOf s.settings.chunkCap w) (more : w.placed + cs.length < w.width * w.height) :
    placeCodes cs s = s.setWindow (some (withCodes s.settings.chunkCap cs w)) := by
  obtain ⟨init, c, rfl⟩ := exists_concat hc
  simp only [List.length_append, List.length_singleton] at room more
  obtain ⟨w', last, joined⟩ := placeCodes_concat (init := init) (c := c) h (by omega) (by omega)
  have eq := joined.eq
  have length : w'.chunk.length = w.chunk.length + init.length := by rw [eq]; exact List.length_append
  have placed : w'.placed + 1 ≠ w'.width * w'.height := by
    rw [eq]
    show w.placed + init.length + 1 ≠ w.width * w.height
    omega
  have joins : placeCode c (s.setWindow (some w')) = s.setWindow (some (withCodes s.settings.chunkCap [c] w')) :=
    placeCode_joins (s := s.setWindow (some w')) rfl
      (by rw [length]; exact joined.capOf ▸ (show w.chunk.length + init.length + 1 < _ by omega)) placed
  rw [last, joins, joined]

/-- Codes that fill the chunk. -/
theorem placeCodes_fill (up : portUp s .c = true) (h : s.window = some w) (hc : cs ≠ [])
    (full : w.chunk.length + cs.length = capOf s.settings.chunkCap w) (more : w.placed + cs.length < w.width * w.height) :
    placeCodes cs s = sentC [chunkRecord (withCodes s.settings.chunkCap cs w)]
      (some (chunkOut (withCodes s.settings.chunkCap cs w))) s := by
  obtain ⟨init, c, rfl⟩ := exists_concat hc
  simp only [List.length_append, List.length_singleton] at full more
  obtain ⟨w', last, joined⟩ := placeCodes_concat (init := init) (c := c) h (by omega) (by omega)
  have eq := joined.eq
  have length : w'.chunk.length = w.chunk.length + init.length := by rw [eq]; exact List.length_append
  have placed : w'.placed + 1 ≠ w'.width * w'.height := by
    rw [eq]
    show w.placed + init.length + 1 ≠ w.width * w.height
    omega
  have fills := placeCode_fills (c := c) (s := s.setWindow (some w')) up rfl
    (by rw [length]; exact joined.capOf ▸ (show _ ≤ w.chunk.length + init.length + 1 by omega)) placed
  rw [last, fills]
  show sentC [chunkRecord (withCodes s.settings.chunkCap [c] w')] (some (chunkOut (withCodes s.settings.chunkCap [c] w'))) s = _
  rw [joined]

/-- Codes that complete the window. -/
theorem placeCodes_end (up : portUp s .c = true) (h : s.window = some w) (hc : cs ≠ [])
    (room : w.chunk.length + cs.length ≤ capOf s.settings.chunkCap w) (last : w.placed + cs.length = w.width * w.height) :
    placeCodes cs s = sentC [chunkRecord (withCodes s.settings.chunkCap cs w), totalReply w] none s := by
  obtain ⟨init, c, rfl⟩ := exists_concat hc
  simp only [List.length_append, List.length_singleton] at room last
  obtain ⟨w', at_last, joined⟩ := placeCodes_concat (init := init) (c := c) h (by omega) (by omega)
  have eq := joined.eq
  have placed : w'.placed + 1 = w'.width * w'.height := by
    rw [eq]
    show w.placed + init.length + 1 = w.width * w.height
    omega
  have total : totalReply w' = totalReply w := by rw [eq]; rfl
  have ends := placeCode_ends (c := c) (s := s.setWindow (some w')) up rfl placed
  rw [at_last, ends]
  show sentC [chunkRecord (withCodes s.settings.chunkCap [c] w'), totalReply w'] none s = _
  rw [joined, total]

set_option Elab.async false in
theorem placeCode_window_ends {c : Code} (h : s.window = some w) (last : w.placed + 1 = w.width * w.height) :
    (placeCode c s).window = none := by
  have last' : (withCodes s.settings.chunkCap [c] w).placed
      = (withCodes s.settings.chunkCap [c] w).width * (withCodes s.settings.chunkCap [c] w).height := last
  rw [placeCode_eq h]
  simp only [if_pos last']
  unfold endWindow
  split
  · assumption
  · rfl

/-- The window is over once its last code is placed, whether or not Port C is UP. -/
theorem placeCodes_window_end (h : s.window = some w) (hc : cs ≠ [])
    (room : w.chunk.length + cs.length ≤ capOf s.settings.chunkCap w) (last : w.placed + cs.length = w.width * w.height) :
    (placeCodes cs s).window = none := by
  obtain ⟨init, c, rfl⟩ := exists_concat hc
  simp only [List.length_append, List.length_singleton] at room last
  obtain ⟨w', at_last, joined⟩ := placeCodes_concat (init := init) (c := c) h (by omega) (by omega)
  rw [at_last]
  refine placeCode_window_ends rfl ?_
  rw [joined.eq]
  show w.placed + init.length + 1 = w.width * w.height
  omega

/-! ### A chunk filled by some of the codes, the rest in the next (R155) -/

/-- The window whose chunk the codes have filled: the chunk is out and the next one is begun. -/
theorem placeCodes_split {front : List Code} (up : portUp s .c = true) (h : s.window = some w) (hf : front ≠ [])
    (full : w.chunk.length + front.length = capOf s.settings.chunkCap w)
    (more : w.placed + front.length < w.width * w.height) (back : List Code) :
    placeCodes (front ++ back) s = placeCodes back (sentC [chunkRecord (withCodes s.settings.chunkCap front w)]
      (some (chunkOut (withCodes s.settings.chunkCap front w))) s) := by
  rw [placeCodes_append, placeCodes_fill up h hf full more]

theorem placeCodes_split_open {front back : List Code} (up : portUp s .c = true) (h : s.window = some w) (hf : front ≠ [])
    (full : w.chunk.length + front.length = capOf s.settings.chunkCap w) (few : back.length < s.settings.chunkCap)
    (more : w.placed + (front ++ back).length < w.width * w.height) :
    ∃ v, placeCodes (front ++ back) s = sentC [chunkRecord (withCodes s.settings.chunkCap front w)] (some v) s
      ∧ Joined s.settings.chunkCap back (chunkOut (withCodes s.settings.chunkCap front w)) v := by
  rw [List.length_append] at more
  rw [placeCodes_split up h hf full (by omega)]
  obtain ⟨v, joins, joined⟩ := placeCodes_joins (cs := back)
    (s := sentC [chunkRecord (withCodes s.settings.chunkCap front w)]
      (some (chunkOut (withCodes s.settings.chunkCap front w))) s) rfl
    (by rw [show (chunkOut (withCodes s.settings.chunkCap front w)).chunk.length = 0 from rfl, Nat.zero_add]; exact few)
    (by
      show w.placed + front.length + back.length < w.width * w.height
      omega)
  exact ⟨v, joins, joined⟩

theorem placeCodes_split_end {front back : List Code} (up : portUp s .c = true) (h : s.window = some w) (hf : front ≠ [])
    (full : w.chunk.length + front.length = capOf s.settings.chunkCap w) (hb : back ≠ [])
    (few : back.length < s.settings.chunkCap) (last : w.placed + (front ++ back).length = w.width * w.height) :
    placeCodes (front ++ back) s = sentC [.windowChunk w.tag w.nextIndex (w.chunk ++ front),
      .windowChunk w.tag (w.nextIndex + 1) back, totalReply w] none s := by
  have some_back := List.length_pos_iff.2 hb
  rw [List.length_append] at last
  rw [placeCodes_split up h hf full (by omega)]
  rw [placeCodes_end (s := sentC [chunkRecord (withCodes s.settings.chunkCap front w)]
      (some (chunkOut (withCodes s.settings.chunkCap front w))) s) ((portUp_sentC _ _ _).trans up) rfl hb
    (by
      rw [show (chunkOut (withCodes s.settings.chunkCap front w)).chunk.length = 0 from rfl, Nat.zero_add]
      exact few.le)
    (by
      show w.placed + front.length + back.length = w.width * w.height
      omega), sentC_sentC]
  rfl

end Sys2Proof.Machine
end

section
/-! SUPPORT. The completion of a READ: the notice of a wrong word, the word handed to its fetch, its merge or the window, and
the end of the completion (R18, R89, R132, R142, R155). -/

namespace Sys2Proof.Machine

/- A proof is elaborated in a task of its own. `set_option Elab.async false in` before a theorem makes the compile wait there
for the proofs before it, so that only a few are under way at a time; the linters, which would keep every proof's syntax
tree, are off, so that the compile of the whole text stays within its memory. -/
set_option linter.all false

open Sys2Proof

/-! ### The word examined -/

section Examined

variable {s : State} {o : InFlight} {tile word : Nat} {owner : ReadOwner} {upset : StoredBits}

/-- The NOTICE that goes out at once where an uncorrectable word makes MEMORY_FAULT pending (R177). -/
def faultNotice (bad : Bool) (s : State) : List OutRecord :=
  if bad = true ∧ portUp s .c = true ∧ s.notices.pending &&& srcMemoryFault = 0
      ∧ s.settings.noticeEnables &&& srcMemoryFault ≠ 0
    then [.notice ((s.notices.pending ||| srcMemoryFault) &&& s.settings.noticeEnables) s.time.frame (modeOf s)]
    else []

theorem faultNotice_false (s : State) : faultNotice false s = [] := if_neg fun h => nomatch h.1

theorem linkOf_noteFinding (f : Finding) (s : State) : linkOf (noteFinding f s) .c
    = { linkOf s .c with toSend := (linkOf s .c).toSend ++ faultNotice (f == .uncorrectable) s } := by
  have silent : (linkOf s .c : Link) = { linkOf s .c with toSend := (linkOf s .c).toSend ++ faultNotice false s } := by
    rw [faultNotice_false, List.append_nil]
  cases f with
  | clean => exact silent
  | corrected => exact silent
  | uncorrectable =>
    refine (raise_urgent_linkOf (by decide) (count cntUncorrectable s)).trans ?_
    simp only [faultNotice, beq_self_eq_true, true_and]
    rfl

theorem linkOf_noteFinding_other {p : Port} (h : p ≠ .c) (f : Finding) (s : State) :
    linkOf (noteFinding f s) p = linkOf s p := by
  cases f with
  | clean => rfl
  | corrected => rfl
  | uncorrectable => exact raise_linkOf_other _ _ h

/-- Whether the word read is uncorrectable. -/
def readBad (tile word : Nat) (upset : StoredBits) (s : State) : Bool := readFinding tile word upset s == .uncorrectable

theorem linkOf_examined : linkOf (examined o tile word upset s) .c
    = { linkOf s .c with toSend := (linkOf s .c).toSend ++ faultNotice (readBad tile word upset s) s } := by
  rw [examined, linkOf_congr .c (settleBank_unchanged _ _ _).links, linkOf_noteFinding]
  rfl

theorem linkOf_examined_other {p : Port} (h : p ≠ .c) : linkOf (examined o tile word upset s) p = linkOf s p := by
  rw [examined, linkOf_congr p (settleBank_unchanged _ _ _).links, linkOf_noteFinding_other h]
  rfl

theorem portUp_examined (p : Port) : portUp (examined o tile word upset s) p = portUp s p := by
  by_cases h : p = .c
  · rw [h, portUp, linkOf_examined, portUp]
  · rw [portUp, linkOf_examined_other h, portUp]

theorem examined_counters {k : Fin 28} (hk : k ∉ [cntCorrected, cntUncorrectable]) :
    (examined o tile word upset s).counters[k]'k.2 = s.counters[k]'k.2 := by
  obtain ⟨not_corrected, not_bad⟩ := List.ne_and_not_mem_of_not_mem_cons hk
  rw [examined, (settleBank_unchanged _ _ _).counters, noteFinding_counters]
  split
  · rfl
  · split
    · exact (getElem_set_counter _ _).trans (if_neg not_corrected.symm)
    · exact (getElem_set_counter _ _).trans (if_neg fun e => not_bad (by rw [← e]; exact List.mem_singleton_self _))

theorem samePort_examined (o : InFlight) (tile word : Nat) (upset : StoredBits) (s : State) :
    SamePort (setInFlight none s) (examined o tile word upset s) := by
  have settled := samePort_settleBank o (bankOf tile) (noteFinding (readFinding tile word upset s) (upsetState tile word upset s))
  rwa [SamePort, (noteFinding_unchanged _ _).port] at settled

set_option Elab.async false in
theorem examined_idle : (examined o tile word upset s).port.inFlight = none := (samePort_examined o tile word upset s).2.1

theorem examined_bank (b : Fin 8) : (examined o tile word upset s).port.banks[b]
    = if bankOf tile = b then restartedBank s o.afterReset (s.port.banks[bankOf tile]'(bankOf tile).2) else s.port.banks[b]'b.2 := by
  have noted := (noteFinding_unchanged (readFinding tile word upset s) (upsetState tile word upset s))
  have settled := settleBank_bank o (bankOf tile) b (noteFinding (readFinding tile word upset s) (upsetState tile word upset s))
  simp only [noted.port, restartedBank, noted.settings] at settled
  exact settled

end Examined

/-! ### A fetch delivered (R89, R90) -/

section Fetch

variable {s : State} {seq : Count32} {index : Nat} {data : CellWord} {bad : Bool} {r : QueryRecord} {x : Sheet}

/-- A record with the word of one of its fetches. -/
def delivered (index : Nat) (data : CellWord) (bad : Bool) (r : QueryRecord) : QueryRecord :=
  { r with fetches := r.fetches.modify index (fun f => { f with state := .done data bad }) }

/-- Every fetch of a record is DONE. -/
def Finished (r : QueryRecord) : Prop := ∀ f ∈ r.fetches, ∃ w b, f.state = .done w b

theorem deliverFetch_finished (hr : s.queries.records.find? (fun r => r.seq == seq) = some r)
    (all : Finished (delivered index data bad r)) : deliverFetch seq index data bad s
      = judgeDeadline (removeRecords (fun x => x.seq == seq) (answerRecord (delivered index data bad r) s)) := by
  simp only [deliverFetch, hr]
  refine if_pos (List.all_eq_true.mpr fun f hf => ?_)
  obtain ⟨w, b, done⟩ := all f hf
  rw [done]

theorem deliverFetch_open (hr : s.queries.records.find? (fun r => r.seq == seq) = some r)
    (some_open : ¬ Finished (delivered index data bad r)) : deliverFetch seq index data bad s
      = judgeDeadline (s.setQueries { s.queries with
          records := s.queries.records.map (fun x => if x.seq = seq then delivered index data bad x else x) }) := by
  simp only [deliverFetch, hr]
  refine if_neg fun all => some_open fun f hf => ?_
  have done := List.all_eq_true.mp all f hf
  cases state : f.state with
  | done w b => exact ⟨w, b, rfl⟩
  | waiting => rw [state] at done; cases done
  | issued => rw [state] at done; cases done

theorem deliverFetch_port (idle : s.port.inFlight = none) : (deliverFetch seq index data bad s).port = s.port := by
  cases hr : s.queries.records.find? (fun r => r.seq == seq) with
  | none => simp only [deliverFetch, hr]
  | some r =>
    by_cases all : Finished (delivered index data bad r)
    · have answered := (answerRecord_unchanged (delivered index data bad r) s).port
      rw [deliverFetch_finished hr all, (judgeDeadline_unchanged _).port, removeRecords_port,
        discardInFlight_idle (by rw [answered]; exact idle), answered]
    · rw [deliverFetch_open hr all, (judgeDeadline_unchanged _).port]
      rfl

theorem answerRecord_linkOf_c (r : QueryRecord) (s : State) : linkOf (answerRecord r s) .c = linkOf s .c := by
  unfold answerRecord
  split
  · exact linkOf_answerQuery_other (by simp) ..
  · exact linkOf_answerQuery_other (by simp) ..

theorem deliverFetch_linkOf_c : linkOf (deliverFetch seq index data bad s) .c = linkOf s .c := by
  cases hr : s.queries.records.find? (fun r => r.seq == seq) with
  | none => simp only [deliverFetch, hr]
  | some r =>
    by_cases all : Finished (delivered index data bad r)
    · rw [deliverFetch_finished hr all, linkOf_congr .c (judgeDeadline_unchanged _).links,
        linkOf_congr .c (removeRecords_unchanged _ _).links, answerRecord_linkOf_c]
    · rw [deliverFetch_open hr all, linkOf_congr .c (judgeDeadline_unchanged _).links]
      rfl

theorem computeAnswer_outcome (x : Sheet) (r : QueryRecord) (held : Nat) :
    (computeAnswer x r held).1 = .cut ∨ (computeAnswer x r held).1 = .heldVoid := by
  cases bad : badWord r with
  | true => exact .inr (by rw [computeAnswer_bad bad])
  | false =>
    cases void : voidNeeded x.geom r with
    | true => exact .inr (by rw [computeAnswer_void bad void])
    | false => exact .inl (by rw [computeAnswer_cut bad void])

theorem RepliesCounted.of_same {a b c d e : Nat} {s s' t t' : State} (h : RepliesCounted a b c d e s t)
    (hs : ∀ k ∈ replyCounters, s'.counters[k]'k.2 = s.counters[k]'k.2)
    (ht : ∀ k ∈ replyCounters, t'.counters[k]'k.2 = t.counters[k]'k.2) : RepliesCounted a b c d e s' t' := by
  simp only [List.forall_mem_cons] at hs ht
  obtain ⟨s₁, s₂, s₃, s₄, s₅, -⟩ := hs
  obtain ⟨t₁, t₂, t₃, t₄, t₅, -⟩ := ht
  obtain ⟨h₁, h₂, h₃, h₄, h₅⟩ := h
  exact ⟨by rw [s₁, t₁, h₁], by rw [s₂, t₂, h₂], by rw [s₃, t₃, h₃], by rw [s₄, t₄, h₄], by rw [s₅, t₅, h₅]⟩

theorem repliesCounted_answerQuery {n : Fin 6} {tag : Tag} {o : DepthOutcome} {c : Nat} {z : Int} {m : Modifiers}
    (ho : o = .cut ∨ o = .heldVoid) : RepliesCounted (if o = .cut then 1 else 0) (if o = .cut then 0 else 1) 0 0 0 s
      (answerQuery n tag o c z m s) := by
  have counted {k : Fin 28} (h : outcomeCounter o = some k) (j : Fin 28) :
      (answerQuery n tag o c z m s).counters[j]'j.2 = if k = j then s.counters[k]'k.2 + 1 else s.counters[j]'j.2 := by
    rw [answerQuery_counted h, getElem_set_counter]
  have still {k : Fin 28} (h : outcomeCounter o = some k) (j : Fin 28) (other : k ≠ j) :
      (answerQuery n tag o c z m s).counters[j]'j.2 = s.counters[j]'j.2 + BitVec.ofNat 32 0 := by
    rw [counted h, if_neg other, BitVec.add_zero]
  obtain rfl | rfl := ho
  · have still := still (k := cntCut) rfl
    exact ⟨counted rfl _, still _ (by decide), still _ (by decide), still _ (by decide), still _ (by decide)⟩
  · have still := still (k := cntHeldVoid) rfl
    exact ⟨still _ (by decide), counted rfl _, still _ (by decide), still _ (by decide), still _ (by decide)⟩

set_option Elab.async false in
theorem deliverFetch_open_keeps (hr : s.queries.records.find? (fun r => r.seq == seq) = some r)
    (some_open : ¬ Finished (delivered index data bad r)) :
    (∀ k ∈ replyCounters, (deliverFetch seq index data bad s).counters[k]'k.2 = s.counters[k]'k.2)
    ∧ (deliverFetch seq index data bad s).spindles = s.spindles
    ∧ (deliverFetch seq index data bad s).queries.records
        = s.queries.records.map (fun x => if x.seq = seq then delivered index data bad x else x) := by
  rw [deliverFetch_open hr some_open]
  refine ⟨fun k hk => judgeDeadline_counters_other ?_ _, (judgeDeadline_unchanged _).spindles, ?_⟩
  · rintro rfl
    revert hk
    decide
  · rw [(judgeDeadline_unchanged _).queries]
    rfl

/-- What the last word of a record does: the answer, its count, and the record's removal. -/
theorem deliverFetch_answers (hr : s.queries.records.find? (fun r => r.seq == seq) = some r)
    (all : Finished (delivered index data bad r)) (hx : sheetAt s r.sheet = some x) {a : DepthOutcome × Nat × Modifiers}
    (ha : computeAnswer x (delivered index data bad r) (s.spindles[r.spindle]'r.spindle.2).held = a) :
    (deliverFetch seq index data bad s).queries.records = s.queries.records.filter (fun r' => r'.seq != seq)
    ∧ RepliesCounted (if a.1 = .cut then 1 else 0) (if a.1 = .cut then 0 else 1) 0 0 0 s (deliverFetch seq index data bad s)
    ∧ (deliverFetch seq index data bad s).spindles
        = s.spindles.set r.spindle { s.spindles[r.spindle]'r.spindle.2 with held := a.2.1 }
    ∧ (portUp s (.s r.spindle) = true → (linkOf (deliverFetch seq index data bad s) (.s r.spindle)).toSend
        = (linkOf s (.s r.spindle)).toSend ++ [.depthReply r.tag (s.time.frame.setWidth 16) a.2.1 r.correction a.1 a.2.2]) := by
  have answer : answerRecord (delivered index data bad r) s = answerQuery r.spindle r.tag a.1 a.2.1 r.correction a.2.2 s := by
    have hx' : sheetAt s (delivered index data bad r).sheet = some x := hx
    have ha' : computeAnswer x (delivered index data bad r)
        (s.spindles[(delivered index data bad r).spindle]'(delivered index data bad r).spindle.2).held = a := ha
    simp only [answerRecord, hx', ha']
    rfl
  have outcome : a.1 = .cut ∨ a.1 = .heldVoid := ha ▸ computeAnswer_outcome x _ _
  rw [deliverFetch_finished hr all, answer]
  obtain ⟨u, hu⟩ : ∃ u, answerQuery r.spindle r.tag a.1 a.2.1 r.correction a.2.2 s = u := ⟨_, rfl⟩
  have same : u.queries = s.queries := hu ▸ (answerQuery_unchanged _ _ _ _ _ _ _).queries
  have spindles : u.spindles = _ := hu ▸ answerQuery_spindles ..
  have counted := hu ▸ repliesCounted_answerQuery (s := s) (n := r.spindle) (tag := r.tag) (c := a.2.1) (z := r.correction) (m := a.2.2) outcome
  have link := hu ▸ linkOf_answerQuery_same r.spindle r.tag a.1 a.2.1 r.correction a.2.2 s
  have judged := judgeDeadline_unchanged (removeRecords (fun x => x.seq == seq) u)
  have removed := removeRecords_unchanged (fun x => x.seq == seq) u
  rw [hu]
  refine ⟨?_, counted.of_same (fun _ _ => rfl) fun k hk => ?_, ?_, fun up => ?_⟩
  · rw [judged.queries, removeRecords_queries, same]
    rfl
  · rw [judgeDeadline_counters_other _ _, removed.counters]
    rintro rfl
    revert hk
    decide
  · rw [judged.spindles, removed.spindles, spindles]
  · rw [linkOf_congr _ judged.links, linkOf_congr _ removed.links, link, if_pos up]

end Fetch

end Sys2Proof.Machine
end

section
/-! SUPPORT. The completion of a READ from the word handed over to the next choice, for each of its owners, and for a sheet that
is RETIRING (R18, R105, R132, R155, R157). -/

namespace Sys2Proof.Machine

/- A proof is elaborated in a task of its own. `set_option Elab.async false in` before a theorem makes the compile wait there
for the proofs before it, so that only a few are under way at a time; the linters, which would keep every proof's syntax
tree, are off, so that the compile of the whole text stays within its memory. -/
set_option linter.all false

open Sys2Proof

/-! ### A word placed in the window -/

section Window

variable {s : State} {w : WindowRead} {k : Nat} {data : CellWord} {bad : Bool}

/-- The codes of word `k` of a row that lie in the window, lowest column first. -/
def wordCodes (w : WindowRead) (k : Nat) (data : CellWord) (bad : Bool) : List Code :=
  ([4 * k, 4 * k + 1, 4 * k + 2, 4 * k + 3].filter (fun x => w.column ≤ x ∧ x < w.column + w.width)).map
    (fun x => if bad then 65535 else lane data (x % 4))

theorem length_wordCodes : (wordCodes w k data bad).length ≤ 4 := by
  rw [wordCodes, List.length_map]
  exact List.length_filter_le _ _

theorem placeWord_eq (h : s.window = some w) :
    placeWord k data bad s = settleVoids (placeCodes (wordCodes w k data bad) s) := by
  have lanes : (fun x => if bad then voidCode else lane data (laneOf x))
      = fun x => if bad then (65535 : Code) else lane data (x % 4) := by
    funext x
    rw [laneOf, Nat.mod_mod_of_dvd x (by decide)]
    rfl
  simp only [placeWord, h, lanes]
  rfl

theorem not_windowReadInFlight (idle : s.port.inFlight = none) : windowReadInFlight s = false := by
  rw [Bool.eq_false_iff]
  intro reading
  obtain ⟨o, flying, -⟩ := windowReadInFlight_iff.mp reading
  rw [idle] at flying
  cases flying

/-- The codes join the chunk, and no VOID code follows them. -/
theorem placeWord_joins (h : s.window = some w) (hc : wordCodes w k data bad ≠ [])
    (room : w.chunk.length + (wordCodes w k data bad).length < capOf s.settings.chunkCap w)
    (more : w.placed + (wordCodes w k data bad).length < w.width * w.height) (stop : w.voids = 0 ∨ w.waiting ≠ 0) :
    placeWord k data bad s = s.setWindow (some (withCodes s.settings.chunkCap (wordCodes w k data bad) w)) := by
  rw [placeWord_eq h, placeCodes_join h hc room more]
  exact settleVoids_still rfl (stop.imp_right .inl)

/-- The codes join the chunk, and VOID codes follow them. -/
theorem placeWord_joins_voids (up : portUp s .c = true) (idle : s.port.inFlight = none) (h : s.window = some w)
    (hc : wordCodes w k data bad ≠ [])
    (room : w.chunk.length + (wordCodes w k data bad).length < capOf s.settings.chunkCap w)
    (more : w.placed + (wordCodes w k data bad).length < w.width * w.height) (free : w.waiting = 0)
    (bound : w.placed + (wordCodes w k data bad).length + w.voids ≤ w.width * w.height) :
    ∃ rs v, placeWord k data bad s = sentC rs v s
      ∧ VoidsPlaced s.settings.chunkCap (withCodes s.settings.chunkCap (wordCodes w k data bad) w) v rs := by
  obtain ⟨rs, v, placed, voids⟩ := voidsPlaced_placeVoids
    (s := s.setWindow (some (withCodes s.settings.chunkCap (wordCodes w k data bad) w))) up rfl free
    (by rw [State.setWindow_settings, capOf_withCodes hc]; exact List.length_append.trans_lt room) bound
  refine ⟨rs, v, ?_, voids⟩
  rw [placeWord_eq h, placeCodes_join h hc room more]
  exact (settleVoids_free (s := s.setWindow (some (withCodes s.settings.chunkCap (wordCodes w k data bad) w))) rfl
    (not_windowReadInFlight idle)).trans placed

/-- The codes complete the window. -/
theorem placeWord_ends (h : s.window = some w) (hc : wordCodes w k data bad ≠ [])
    (room : w.chunk.length + (wordCodes w k data bad).length ≤ capOf s.settings.chunkCap w)
    (last : w.placed + (wordCodes w k data bad).length = w.width * w.height) :
    (placeWord k data bad s).window = none
    ∧ (portUp s .c = true → placeWord k data bad s
        = sentC [.windowChunk w.tag w.nextIndex (w.chunk ++ wordCodes w k data bad), totalReply w] none s) := by
  have ended := placeCodes_window_end h hc room last
  rw [placeWord_eq h, settleVoids_none ended]
  exact ⟨ended, fun up => placeCodes_end up h hc room last⟩

/-- The codes cut where the chunk is full. -/
theorem wordCodes_cut {cs : List Code} {cap : Nat} (open_ : w.chunk.length < capOf cap w)
    (full : capOf cap w ≤ w.chunk.length + cs.length) (few : cs.length ≤ 4) (four : 4 ≤ cap) :
    ∃ front back, cs = front ++ back ∧ front ≠ [] ∧ w.chunk.length + front.length = capOf cap w ∧ back.length < cap
      ∧ (w.chunk ++ cs).take (capOf cap w) = w.chunk ++ front ∧ (w.chunk ++ cs).drop (capOf cap w) = back := by
  have length : (cs.take (capOf cap w - w.chunk.length)).length = capOf cap w - w.chunk.length := by
    rw [List.length_take]
    omega
  refine ⟨cs.take (capOf cap w - w.chunk.length), cs.drop (capOf cap w - w.chunk.length), (List.take_append_drop _ _).symm,
    fun none_ => ?_, by omega, ?_, ?_, ?_⟩
  · rw [none_, List.length_nil] at length
    omega
  · rw [List.length_drop]
    omega
  · rw [List.take_append, List.take_of_length_le open_.le]
  · rw [List.drop_append, List.drop_of_length_le open_.le, List.nil_append]

/-- The codes fill the chunk, and the rest begin the next. -/
theorem placeWord_fills (up : portUp s .c = true) (h : s.window = some w) (four : 4 ≤ s.settings.chunkCap)
    (open_ : w.chunk.length < capOf s.settings.chunkCap w)
    (full : capOf s.settings.chunkCap w ≤ w.chunk.length + (wordCodes w k data bad).length)
    (more : w.placed + (wordCodes w k data bad).length < w.width * w.height) :
    ∃ v, placeWord k data bad s = sentC [.windowChunk w.tag w.nextIndex
        ((w.chunk ++ wordCodes w k data bad).take (capOf s.settings.chunkCap w))] (some v) s
      ∧ v.placed = w.placed + (wordCodes w k data bad).length
      ∧ v.chunk = (w.chunk ++ wordCodes w k data bad).drop (capOf s.settings.chunkCap w) ∧ v.nextIndex = w.nextIndex + 1
      ∧ v.hold = 0 ∧ v.waiting = w.waiting + 1 ∧ v.voids = w.voids ∧ v.cursor = w.cursor := by
  obtain ⟨front, back, cut, hf, exact_, few, taken, left⟩ := wordCodes_cut open_ full length_wordCodes four
  rw [placeWord_eq h, taken, left]
  rw [cut] at more ⊢
  obtain ⟨v, placed, joined⟩ := placeCodes_split_open up h hf exact_ few more
  have eq := joined.eq
  refine ⟨v, ?_, ?_, by rw [eq]; rfl, by rw [eq]; rfl, by rw [eq]; rfl, by rw [eq]; rfl, by rw [eq]; rfl, by rw [eq]; rfl⟩
  · rw [placed]
    exact settleVoids_still rfl (.inr (.inl (by rw [eq]; exact Nat.succ_ne_zero _)))
  · rw [eq, List.length_append, ← Nat.add_assoc]
    rfl

/-- The codes fill the chunk, and the rest complete the window. -/
theorem placeWord_fills_ends (up : portUp s .c = true) (h : s.window = some w) (four : 4 ≤ s.settings.chunkCap)
    (open_ : w.chunk.length < capOf s.settings.chunkCap w)
    (ended : capOf s.settings.chunkCap w < w.chunk.length + (wordCodes w k data bad).length)
    (last : w.placed + (wordCodes w k data bad).length = w.width * w.height) :
    placeWord k data bad s = sentC [.windowChunk w.tag w.nextIndex
        ((w.chunk ++ wordCodes w k data bad).take (capOf s.settings.chunkCap w)),
      .windowChunk w.tag (w.nextIndex + 1) ((w.chunk ++ wordCodes w k data bad).drop (capOf s.settings.chunkCap w)),
      totalReply w] none s := by
  obtain ⟨front, back, cut, hf, exact_, few, taken, left⟩ := wordCodes_cut open_ ended.le length_wordCodes four
  rw [placeWord_eq h, taken, left]
  rw [cut] at last ended ⊢
  rw [List.length_append] at ended
  rw [placeCodes_split_end up h hf exact_ (List.length_pos_iff.mp (by omega)) few last]
  exact settleVoids_none rfl

end Window

/-! ### The word handed over -/

section Handed

variable {s : State} {o : InFlight} {tile word : Nat} {owner : ReadOwner} {upset : StoredBits}

theorem handWord_port {data : CellWord} {bad : Bool} (idle : s.port.inFlight = none) :
    (handWord owner data bad s).port = s.port := by
  cases owner with
  | fetch seq index => exact deliverFetch_port idle
  | merge => exact (fillMerge_unchanged s data bad).port
  | window y k => exact (placeWord_unchanged k data bad s).port

theorem portUp_handWord {data : CellWord} {bad : Bool} : portUp (handWord owner data bad s) .c = portUp s .c := by
  cases owner with
  | fetch seq index => exact by rw [handWord, portUp, deliverFetch_linkOf_c, portUp]
  | merge => exact portUp_congr .c (fillMerge_unchanged s data bad).links
  | window y k =>
    show portUp (placeWord k data bad s) .c = _
    cases h : s.window with
    | none => rw [show placeWord k data bad s = s by simp only [placeWord, h]]
    | some w =>
      rw [placeWord_eq h, (onlySentOnC_settleVoids _).portUp]
      exact (OnlySentOnC.portUp (List.foldlRecOn (motive := fun t => OnlySentOnC s t) _ _ (.of_links rfl)
        fun t ht c _ => ht.trans (onlySentOnC_placeCode c t)))

theorem handed_sheets : (handed o tile word owner upset s).sheets = s.sheets := by
  unfold handed
  split
  · exact (examined_unchanged o tile word upset s).sheets
  · exact (handWord_unchanged _ _ _ _).sheets.trans (examined_unchanged o tile word upset s).sheets

theorem handed_port : (handed o tile word owner upset s).port = (examined o tile word upset s).port := by
  unfold handed
  split
  · rfl
  · exact handWord_port examined_idle

theorem portUp_handed : portUp (handed o tile word owner upset s) .c = portUp s .c := by
  unfold handed
  split
  · exact portUp_examined .c
  · rw [portUp_handWord, portUp_examined]

set_option Elab.async false in
theorem handed_lost (h : o.discard = true) : handed o tile word owner upset s = examined o tile word upset s := if_pos h

theorem handed_owned (h : o.discard = false) : handed o tile word owner upset s
    = handWord owner (readData tile word upset s) (readBad tile word upset s) (examined o tile word upset s) := by
  rw [handed, if_neg (by rw [h]; decide)]
  rfl

/-! ### The end of the completion -/

/-- The state at the choice that follows a READ's completion. -/
def readEnd (o : InFlight) (tile word : Nat) (owner : ReadOwner) (upset : StoredBits) (s : State) : State :=
  completed o (handed o tile word owner upset s)

theorem readEnd_chosen : ChosenFrom s (readEnd o tile word owner upset s) (completeRead o tile word owner upset s) := by
  obtain ⟨state, idle, -, left⟩ := samePort_examined o tile word upset s
  exact chosenFrom_completed (by rw [handed_port]; exact idle) (by rw [handed_port]; exact state)
    (by rw [handed_port]; exact left)

theorem readEnd_owed : (readEnd o tile word owner upset s).port.owed = s.port.owed := by
  obtain ⟨-, -, owed, -⟩ := samePort_examined o tile word upset s
  rw [readEnd, (samePort_completed o _).2.2.1, handed_port]
  exact owed

theorem readEnd_bank (b : Fin 8) : BankJudged (readEnd o tile word owner upset s) b
    (if bankOf tile = b then restartedBank s o.afterReset (s.port.banks[bankOf tile]'(bankOf tile).2) else s.port.banks[b]'b.2) := by
  have judged := bankJudged_completed o (handed o tile word owner upset s) b
  rwa [handed_port, examined_bank] at judged

theorem readEnd_unchanged : Unchanged [.sheets, .links, .port] (handed o tile word owner upset s)
    (readEnd o tile word owner upset s) := completed_unchanged o _

theorem readEnd_live (live : SheetLive o s) :
    Unchanged [.port] (handed o tile word owner upset s) (readEnd o tile word owner upset s) :=
  completed_live fun n x hn hx => live n x hn (by rwa [sheetAt_congr handed_sheets] at hx)

theorem retireAfter_linkOf_other {p : Port} (h : p ≠ .c) (o : InFlight) (s : State) : linkOf (retireAfter o s) p = linkOf s p := by
  unfold retireAfter
  split
  · rfl
  · split
    · rfl
    · split
      · dsimp only
        split
        · exact (linkOf_send_other _ h).trans (linkOf_congr p (setSheet_unchanged _ _ _).links)
        · exact linkOf_congr p (setSheet_unchanged _ _ _).links
      · rfl

theorem readEnd_linkOf_other {p : Port} (h : p ≠ .c) :
    linkOf (readEnd o tile word owner upset s) p = linkOf (handed o tile word owner upset s) p := by
  rw [readEnd, completed, linkOf_congr p (judgeBanks_unchanged _).links, retireAfter_linkOf_other h]

set_option Elab.async false in
theorem choose_seqs (s : State) : (choose s).queries.records.map (fun r => r.seq) = s.queries.records.map (fun r => r.seq) := by
  obtain e | ⟨seq, index, e⟩ := choose_queries s
  · rw [e]
  · rw [e]
    show (List.map _ s.queries.records).map _ = _
    rw [List.map_map]
    refine List.map_congr_left fun r _ => ?_
    show (if r.seq = seq then _ else r : QueryRecord).seq = r.seq
    split <;> rfl

end Handed

end Sys2Proof.Machine
end

section
/-! SUPPORT. A READ handed to its fetch, its merge and the window, relative to the state before the completion. -/

namespace Sys2Proof.Machine

/- A proof is elaborated in a task of its own. `set_option Elab.async false in` before a theorem makes the compile wait there
for the proofs before it, so that only a few are under way at a time; the linters, which would keep every proof's syntax
tree, are off, so that the compile of the whole text stays within its memory. -/
set_option linter.all false

open Sys2Proof

section Owners

variable {s : State} {o : InFlight} {tile word : Nat} {upset : StoredBits}

/-- A merge fills the lanes that its entry lacks (R142). -/
theorem readEnd_merges {e : Entry} {rest : List Entry} (owned : o.discard = false) (hq : s.drain.queue = e :: rest) :
    ∃ e' : Entry, (completeRead o tile word .merge upset s).drain.queue = e' :: rest ∧ e'.merge = .merged ∧ e'.tile = e.tile
      ∧ e'.word = e.word ∧ e'.lanes = e.lanes
      ∧ ∀ l : Fin 4, lane e'.codes l = if e.lanes.getLsbD l then lane e.codes l
          else if readBad tile word upset s then 65535 else lane (readData tile word upset s) l := by
  have queue : (examined o tile word upset s).drain.queue = e :: rest := by
    rw [(examined_unchanged o tile word upset s).drain, hq]
  have after : (completeRead o tile word .merge upset s).drain = (handed o tile word .merge upset s).drain := by
    rw [completeRead_eq, afterCompletion_eq, (choose_unchanged _).drain, (completed_unchanged o _).drain]
  rw [after, handed_owned owned]
  simp only [handWord, fillMerge, queue]
  refine ⟨_, rfl, rfl, rfl, rfl, rfl, fun l => ?_⟩
  rw [mergeLanes, lane_wordOfLanes]
  split
  · rfl
  · split
    · exact lane_wordOfLanes _ l
    · rfl

section Fetch

variable {seq : Count32} {index : Nat} {r : QueryRecord} {x : Sheet}

theorem reply_not_examined {k : Fin 28} (h : k ∈ replyCounters) : k ∉ [cntCorrected, cntUncorrectable] := by
  revert h
  decide +revert

theorem reply_not_issue {k : Fin 28} (h : k ∈ replyCounters) : k ∉ issueCounters := by
  revert h
  decide +revert

theorem examined_replies {k : Fin 28} (h : k ∈ replyCounters) : (examined o tile word upset s).counters[k]'k.2 = s.counters[k]'k.2 :=
  examined_counters (reply_not_examined h)

theorem completeRead_replies {owner : ReadOwner} {k : Fin 28} (h : k ∈ replyCounters) {t : State}
    (ht : completeRead o tile word owner upset s = t) :
    t.counters[k]'k.2 = (handed o tile word owner upset s).counters[k]'k.2 := by
  rw [← ht, completeRead_eq]
  exact afterCompletion_counters (reply_not_issue h) o _

/-- A fetch of a record that waits for more words (R89). -/
theorem readEnd_waits (owned : o.discard = false) (hr : s.queries.records.find? (fun r => r.seq == seq) = some r)
    (some_open : ¬ Finished (delivered index (readData tile word upset s) (readBad tile word upset s) r)) :
    RepliesCounted 0 0 0 0 0 s (completeRead o tile word (.fetch seq index) upset s)
    ∧ (readEnd o tile word (.fetch seq index) upset s).spindles = s.spindles
    ∧ (readEnd o tile word (.fetch seq index) upset s).queries.records = s.queries.records.map (fun x =>
        if x.seq = seq then delivered index (readData tile word upset s) (readBad tile word upset s) x else x) := by
  have before := examined_unchanged o tile word upset s
  have found : (examined o tile word upset s).queries.records.find? (fun r => r.seq == seq) = some r := by rw [before.queries, hr]
  have after := readEnd_unchanged (o := o) (tile := tile) (word := word) (owner := .fetch seq index) (upset := upset) (s := s)
  obtain ⟨counted, spindles, records⟩ := deliverFetch_open_keeps found some_open
  have handed_eq := handed_owned (tile := tile) (word := word) (owner := .fetch seq index) (upset := upset) (s := s) owned
  refine ⟨repliesCounted_of_same fun k hk => ?_, ?_, ?_⟩
  · rw [completeRead_replies hk rfl, handed_eq]
    exact (counted k hk).trans (examined_replies hk)
  · rw [after.spindles, handed_eq]
    exact spindles.trans before.spindles
  · rw [after.queries, handed_eq]
    exact records.trans (by rw [before.queries])

/-- The last fetch of a record (R90, R96). -/
theorem readEnd_answers (owned : o.discard = false) (hr : s.queries.records.find? (fun r => r.seq == seq) = some r)
    (all : Finished (delivered index (readData tile word upset s) (readBad tile word upset s) r))
    (hx : sheetAt s r.sheet = some x) {a : DepthOutcome × Nat × Modifiers}
    (ha : computeAnswer x (delivered index (readData tile word upset s) (readBad tile word upset s) r)
      (s.spindles[r.spindle]'r.spindle.2).held = a) {t : State} (ht : completeRead o tile word (.fetch seq index) upset s = t) :
    (readEnd o tile word (.fetch seq index) upset s).queries.records = s.queries.records.filter (fun r' => r'.seq != seq)
    ∧ (∀ r' ∈ t.queries.records, r'.seq ≠ seq)
    ∧ RepliesCounted (if a.1 = .cut then 1 else 0) (if a.1 = .cut then 0 else 1) 0 0 0 s t
    ∧ (readEnd o tile word (.fetch seq index) upset s).spindles
        = s.spindles.set r.spindle { s.spindles[r.spindle]'r.spindle.2 with held := a.2.1 }
    ∧ (t.spindles[r.spindle]'r.spindle.2).held = a.2.1
    ∧ (portUp s (.s r.spindle) = true → (linkOf t (.s r.spindle)).toSend = (linkOf s (.s r.spindle)).toSend
        ++ [.depthReply r.tag (s.time.frame.setWidth 16) a.2.1 r.correction a.1 a.2.2]) := by
  have before := examined_unchanged o tile word upset s
  have found : (examined o tile word upset s).queries.records.find? (fun r => r.seq == seq) = some r := by rw [before.queries, hr]
  have after := readEnd_unchanged (o := o) (tile := tile) (word := word) (owner := .fetch seq index) (upset := upset) (s := s)
  have chosen := choose_unchanged (readEnd o tile word (.fetch seq index) upset s)
  have seqs := choose_seqs (readEnd o tile word (.fetch seq index) upset s)
  have ended : choose (readEnd o tile word (.fetch seq index) upset s) = t := ht
  rw [ended] at chosen seqs
  obtain ⟨records, counted, spindles, sent⟩ := deliverFetch_answers (a := a) found all ((sheetAt_congr before.sheets _).trans hx)
    (by rw [before.spindles]; exact ha)
  have handed_eq := handed_owned (tile := tile) (word := word) (owner := .fetch seq index) (upset := upset) (s := s) owned
  have end_records : (readEnd o tile word (.fetch seq index) upset s).queries.records
      = s.queries.records.filter (fun r' => r'.seq != seq) := by
    rw [after.queries, handed_eq]
    exact records.trans (by rw [before.queries])
  have end_spindles : (readEnd o tile word (.fetch seq index) upset s).spindles
      = s.spindles.set r.spindle { s.spindles[r.spindle]'r.spindle.2 with held := a.2.1 } := by
    rw [after.spindles, handed_eq]
    exact spindles.trans (by rw [before.spindles])
  refine ⟨end_records, fun r' hr' e => ?_, counted.of_same (fun k hk => (examined_replies hk).symm) fun k hk => ?_, end_spindles,
    ?_, fun up => ?_⟩
  · have mem : seq ∈ t.queries.records.map (fun r => r.seq) := List.mem_map.mpr ⟨r', hr', e⟩
    rw [seqs, end_records] at mem
    obtain ⟨r'', inside, same⟩ := List.mem_map.mp mem
    have other := (List.mem_filter.mp inside).2
    rw [same] at other
    simp at other
  · rw [completeRead_replies hk ht, handed_eq]
    rfl
  · rw [chosen.spindles, end_spindles]
    exact congrArg Context.held (Vector.getElem_set_self _)
  · rw [linkOf_congr _ chosen.links, readEnd_linkOf_other (by simp), handed_eq]
    have link : linkOf (examined o tile word upset s) (.s r.spindle) = linkOf s (.s r.spindle) := linkOf_examined_other (by simp)
    have sent := sent (by rwa [portUp_examined])
    rw [link, before.time] at sent
    exact sent

end Fetch

section Window

variable {y k : Nat} {w : WindowRead}

/-- The window and the records on Port C after a word placed for a sheet that is not RETIRING. -/
theorem readEnd_placed (owned : o.discard = false) (live : SheetLive o s) {rs : List OutRecord} {v : Option WindowRead}
    (placed : placeWord k (readData tile word upset s) (readBad tile word upset s) (examined o tile word upset s)
      = sentC rs v (examined o tile word upset s)) :
    (readEnd o tile word (.window y k) upset s).window = v
    ∧ (linkOf (readEnd o tile word (.window y k) upset s) .c).toSend
      = (linkOf s .c).toSend ++ faultNotice (readBad tile word upset s) s ++ rs := by
  have after := readEnd_live (tile := tile) (word := word) (owner := .window y k) (upset := upset) live
  have handed_eq : handed o tile word (.window y k) upset s = sentC rs v (examined o tile word upset s) :=
    (handed_owned owned).trans placed
  rw [after.window, linkOf_congr .c after.links, handed_eq, linkOf_sentC, linkOf_examined]
  exact ⟨rfl, rfl⟩

end Window

end Owners

end Sys2Proof.Machine
end

section
/-! SUPPORT. A READ's completion handed to its owner: the obligation, by the owner and by the sheet. -/

namespace Sys2Proof.Machine

/- A proof is elaborated in a task of its own. `set_option Elab.async false in` before a theorem makes the compile wait there
for the proofs before it, so that only a few are under way at a time; the linters, which would keep every proof's syntax
tree, are off, so that the compile of the whole text stays within its memory. -/
set_option linter.all false

open Sys2Proof

variable {s : State} {o : InFlight} {tile word : Nat} {upset : StoredBits}

theorem sentC_nil_eq (v : Option WindowRead) (s : State) : sentC [] v s = s.setWindow v := by
  have same : sentC [] s.window s = s := sentC_nil rfl
  rw [← setWindow_sentC (rs := []) (v := s.window), same]

/-- The window READ of O52: what the word, placed in the window, makes of it and sends. -/
theorem readEnd_window {y k : Nat} {w : WindowRead} (owned : o.discard = false) (live : SheetLive o s) (hw : s.window = some w)
    {codes : List Code} (hcodes : wordCodes w k (readData tile word upset s) (readBad tile word upset s) = codes)
    {cap total placed : Nat} {all : List Code} (hcap : capOf s.settings.chunkCap w = cap) (hall : w.chunk ++ codes = all)
    (htotal : w.width * w.height = total) (hplaced : w.placed + codes.length = placed) {u t : State}
    (hu : readEnd o tile word (.window y k) upset s = u) (ht : completeRead o tile word (.window y k) upset s = t)
    {sends : List OutRecord → Prop} (hsends : ∀ rs, sends rs
      ↔ (linkOf u .c).toSend = (linkOf s .c).toSend ++ faultNotice (readBad tile word upset s) s ++ rs) (hc : codes ≠ []) :
    (all.length < cap → placed < total →
      (w.voids = 0 ∨ w.waiting ≠ 0 → u.window = some { w with placed := placed, chunk := all, cap := cap } ∧ sends [])
      ∧ (w.waiting = 0 → placed + w.voids ≤ total → portUp s .c = true → ∃ rs, sends rs
          ∧ VoidsPlaced s.settings.chunkCap { w with placed := placed, chunk := all, cap := cap } u.window rs))
    ∧ (w.chunk.length < cap → cap ≤ all.length → 4 ≤ s.settings.chunkCap → portUp s .c = true →
        (placed < total → sends [.windowChunk w.tag w.nextIndex (all.take cap)]
          ∧ ∃ v, u.window = some v ∧ v.placed = placed ∧ v.chunk = all.drop cap ∧ v.nextIndex = w.nextIndex + 1
            ∧ v.hold = 0 ∧ v.waiting = w.waiting + 1 ∧ v.voids = w.voids ∧ v.cursor = w.cursor)
        ∧ (placed = total → cap < all.length → u.window = none
          ∧ sends [.windowChunk w.tag w.nextIndex (all.take cap),
              .windowChunk w.tag (w.nextIndex + 1) (all.drop cap), .cellReply w.tag 9 .done (.total total)]))
    ∧ (all.length ≤ cap → placed = total → t.window = none
        ∧ (portUp s .c = true →
            sends [.windowChunk w.tag w.nextIndex all, .cellReply w.tag 9 .done (.total total)])) := by
  have before := examined_unchanged o tile word upset s
  have window : (examined o tile word upset s).window = some w := before.window.trans hw
  have idle := examined_idle (o := o) (tile := tile) (word := word) (upset := upset) (s := s)
  have up' (up : portUp s .c = true) : portUp (examined o tile word upset s) .c = true := (portUp_examined .c).trans up
  have cap_eq : (examined o tile word upset s).settings.chunkCap = s.settings.chunkCap := by rw [before.settings]
  have length : all.length = w.chunk.length + codes.length := by rw [← hall, List.length_append]
  have ends {rs : List OutRecord} {v : Option WindowRead} := readEnd_placed (tile := tile) (word := word) (upset := upset)
    (y := y) (k := k) owned live (rs := rs) (v := v)
  rw [hu] at ends
  subst hcap hall htotal hplaced hcodes
  refine ⟨fun room more => ⟨fun stop => ?_, fun free bound up => ?_⟩, fun open_ full four up => ⟨fun more => ?_, fun last beyond => ?_⟩,
    fun room last => ⟨?_, fun up => ?_⟩⟩
  · rw [length] at room
    have placed := placeWord_joins window hc (by rw [cap_eq]; exact room) more stop
    rw [← sentC_nil_eq, cap_eq] at placed
    obtain ⟨window', sent⟩ := ends placed
    exact ⟨window', (hsends _).2 sent⟩
  · rw [length] at room
    obtain ⟨rs, v, placed, voids⟩ := placeWord_joins_voids (up' up) idle window hc (by rw [cap_eq]; exact room) more free bound
    rw [cap_eq] at voids
    obtain ⟨window', sent⟩ := ends placed
    exact ⟨rs, (hsends _).2 sent, by rw [window']; exact voids⟩
  · rw [length] at full
    obtain ⟨v, placed, parts⟩ := placeWord_fills (up' up) window (by rw [cap_eq]; exact four) (by rw [cap_eq]; exact open_)
      (by rw [cap_eq]; exact full) more
    rw [cap_eq] at placed parts
    obtain ⟨window', sent⟩ := ends placed
    exact ⟨(hsends _).2 sent, v, window', parts⟩
  · rw [length] at beyond
    have placed := placeWord_fills_ends (up' up) window (by rw [cap_eq]; exact four) (by rw [cap_eq]; exact open_)
      (by rw [cap_eq]; exact beyond) last
    rw [cap_eq] at placed
    obtain ⟨window', sent⟩ := ends placed
    exact ⟨window', (hsends _).2 sent⟩
  · rw [length] at room
    obtain ⟨ended, -⟩ := placeWord_ends window hc (by rw [cap_eq]; exact room) last
    have after := readEnd_live (tile := tile) (word := word) (owner := .window y k) (upset := upset) live
    have none_ : u.window = none := by
      rw [← hu, after.window, handed_owned owned]
      exact ended
    have chosen : choose u = t := by rw [← hu]; exact ht
    rw [← chosen, choose_window_still fun v hv => ?_, none_]
    rw [none_] at hv
    cases hv
  · rw [length] at room
    obtain ⟨-, placed⟩ := placeWord_ends window hc (by rw [cap_eq]; exact room) last
    obtain ⟨-, sent⟩ := ends (placed (up' up))
    exact (hsends _).2 sent

/-- A discarded READ changes only what every READ's completion does (R132). -/
theorem readEnd_lost {owner : ReadOwner} (lost : o.discard = true) (live : SheetLive o s) {u : State}
    (hu : readEnd o tile word owner upset s = u) :
    Unchanged [.port, .mem, .counters, .notices, .links] s u ∧ RepliesCounted 0 0 0 0 0 s u
    ∧ (∀ p, p ≠ .c → linkOf u p = linkOf s p)
    ∧ linkOf u .c = { linkOf s .c with toSend := (linkOf s .c).toSend ++ faultNotice (readBad tile word upset s) s } := by
  have after := readEnd_live (tile := tile) (word := word) (owner := owner) (upset := upset) live
  rw [hu, handed_lost lost] at after
  have before := examined_unchanged o tile word upset s
  refine ⟨before.andThen after, repliesCounted_of_same fun k hk => ?_, fun p hp => ?_, ?_⟩
  · rw [after.counters]
    exact examined_replies hk
  · rw [linkOf_congr p after.links, linkOf_examined_other hp]
  · rw [linkOf_congr .c after.links, linkOf_examined]

/-- A READ's completion for a RETIRING sheet (R18). -/
theorem completeRead_retires {owner : ReadOwner} {n : Nat} {x : Sheet} (hn : o.sheet = some n) (hx : sheetAt s n = some x)
    (hs : x.state = .retiring) {t : State} (ht : completeRead o tile word owner upset s = t) :
    sheetAt t n = none ∧ (∀ m, m ≠ n → sheetAt t m = sheetAt s m)
    ∧ ∀ tag, x.closeWaiting = some tag → portUp s .c = true →
        (linkOf t .c).toSend.getLast? = some (.cellReply tag 6 .done .empty) := by
  obtain ⟨freed, sent⟩ := retireAfter_retiring (o := o) (s := handed o tile word owner upset s) hn
    ((sheetAt_congr handed_sheets n).trans hx) hs
  have after : Unchanged [.port, .sched, .queries, .window, .counters] (retireAfter o (handed o tile word owner upset s)) t := by
    rw [← ht]
    exact ((judgeBanks_unchanged _).mono (by decide)).andThen (choose_unchanged _)
  refine ⟨?_, fun m other => ?_, fun tag waits up => ?_⟩
  · rw [sheetAt_congr after.sheets, freed, if_pos rfl]
  · rw [sheetAt_congr after.sheets, freed, if_neg other, sheetAt_congr handed_sheets]
  · rw [linkOf_congr .c after.links, sent tag waits (portUp_handed.trans up)]
    exact List.getLast?_concat

/-- A discarded READ for a RETIRING sheet hands its word nowhere (R18). -/
theorem completeRead_retires_lost {owner : ReadOwner} (lost : o.discard = true) {t : State}
    (ht : completeRead o tile word owner upset s = t) :
    t.drain = s.drain ∧ t.spindles = s.spindles
    ∧ t.queries.records.map (fun r => r.seq) = s.queries.records.map (fun r => r.seq)
    ∧ (∀ w, s.window = some w → ∃ v, t.window = some v ∧ v.chunk = w.chunk ∧ v.placed = w.placed)
    ∧ ∀ m : Fin 6, linkOf t (.s m) = linkOf s (.s m) := by
  have before := examined_unchanged o tile word upset s
  have after := readEnd_unchanged (o := o) (tile := tile) (word := word) (owner := owner) (upset := upset) (s := s)
  have chosen := choose_unchanged (readEnd o tile word owner upset s)
  have seqs := choose_seqs (readEnd o tile word owner upset s)
  have window (w : WindowRead) (hw : (readEnd o tile word owner upset s).window = some w) := choose_window_some hw
  have link (m : Fin 6) : linkOf (readEnd o tile word owner upset s) (.s m) = linkOf s (.s m) := by
    rw [readEnd_linkOf_other (by simp), handed_lost lost, linkOf_examined_other (by simp)]
  have ended : choose (readEnd o tile word owner upset s) = t := ht
  rw [handed_lost lost] at after
  rw [ended] at chosen seqs window
  refine ⟨?_, ?_, ?_, fun w hw => ?_, fun m => ?_⟩
  · rw [chosen.drain, after.drain, before.drain]
  · rw [chosen.spindles, after.spindles, before.spindles]
  · rw [seqs, after.queries, before.queries]
  · obtain ⟨v, hv, moved⟩ := window w (by rw [after.window, before.window, hw])
    exact ⟨v, hv, by rw [moved], by rw [moved]⟩
  · rw [linkOf_congr _ chosen.links, link]

/-- Settles O52. -/
theorem readCompletionHandsTheWordToItsOwner : Obligations.ReadCompletionHandsTheWordToItsOwner := by
  unfold Obligations.ReadCompletionHandsTheWordToItsOwner
  refine ⟨fun s tile word owner sheet d a upset hr flying inside => ?_,
    fun s tile word owner n x d a upset hr flying inside hx hs => ?_⟩
  · intro mem data bad open_ fault
    have taken := (execReadComplete_of hr flying upset).trans (if_neg (Nat.not_le.2 inside))
    have mem_eq := completeRead_mem ⟨.read tile word owner, sheet, d, a⟩ tile word owner upset s
    obtain ⟨o, ho⟩ : ∃ o : InFlight, ⟨.read tile word owner, sheet, d, a⟩ = o := ⟨_, rfl⟩
    have discard : o.discard = d := ho ▸ rfl
    have after_reset : o.afterReset = a := ho ▸ rfl
    have live (h : open_) : SheetLive o s := fun n x hn hx => h n x (by rw [← ho] at hn; exact hn) hx
    rw [ho] at taken mem_eq
    obtain ⟨u, hu⟩ : ∃ u, readEnd o tile word owner upset s = u := ⟨_, rfl⟩
    obtain ⟨t, ht⟩ : ∃ t, completeRead o tile word owner upset s = t := ⟨_, rfl⟩
    have chosen := readEnd_chosen (o := o) (tile := tile) (word := word) (owner := owner) (upset := upset) (s := s)
    have owed := readEnd_owed (o := o) (tile := tile) (word := word) (owner := owner) (upset := upset) (s := s)
    have bank := readEnd_bank (o := o) (tile := tile) (word := word) (owner := owner) (upset := upset) (s := s)
    simp only [hu, after_reset] at chosen owed bank
    rw [ht] at taken mem_eq chosen
    refine ⟨t, u, taken, chosen, owed, by simpa using bank (bankOf tile), fun b other => ?_, fun lost h => ?_,
      fun e rest owned merge hq => ?_, fun seq index r owned fetch hr => ⟨fun some_open => ?_, fun x all hx => ?_⟩,
      fun y k w owned reading hw h => ?_, fun h => ?_, by rw [mem_eq]; rfl⟩
    · have judged := bank b
      rwa [if_neg other.symm] at judged
    · exact readEnd_lost (by rw [discard, lost]) (live h) hu
    · subst merge
      rw [← ht]
      exact readEnd_merges (by rw [discard, owned]) hq
    · subst fetch
      rw [← ht, ← hu]
      exact readEnd_waits (by rw [discard, owned]) hr some_open
    · subst fetch
      rw [← hu]
      exact readEnd_answers (by rw [discard, owned]) hr all hx rfl ht
    · subst reading
      intro codes cap all placed total sends hc
      exact readEnd_window (by rw [discard, owned]) (live h) hw rfl rfl rfl rfl rfl hu ht (fun rs => Iff.rfl) hc
    · have after := readEnd_live (tile := tile) (word := word) (owner := owner) (upset := upset) (live h)
      have chosen := choose_unchanged (readEnd o tile word owner upset s)
      have ended : choose (readEnd o tile word owner upset s) = t := ht
      rw [ended] at chosen
      rw [chosen.sheets, after.sheets, handed_sheets]
  · have taken := (execReadComplete_of hr flying upset).trans (if_neg (Nat.not_le.2 inside))
    have mem_eq := completeRead_mem ⟨.read tile word owner, some n, d, a⟩ tile word owner upset s
    obtain ⟨o, ho⟩ : ∃ o : InFlight, ⟨.read tile word owner, some n, d, a⟩ = o := ⟨_, rfl⟩
    have discard : o.discard = d := ho ▸ rfl
    have sheet : o.sheet = some n := ho ▸ rfl
    rw [ho] at taken mem_eq
    obtain ⟨t, ht⟩ : ∃ t, completeRead o tile word owner upset s = t := ⟨_, rfl⟩
    rw [ht] at taken mem_eq
    obtain ⟨freed, others, reply⟩ := completeRead_retires sheet hx hs ht
    refine ⟨t, taken, freed, others, reply, fun lost => ?_⟩
    obtain ⟨drain, spindles, seqs, window, links⟩ := completeRead_retires_lost (by rw [discard, lost]) ht
    exact ⟨drain, spindles, by rw [mem_eq]; rfl, seqs, window, links⟩

end Sys2Proof.Machine
end

section
/-! SUPPORT. The work of a sheet ended at its close (R17, R18): its queries, jobs, entries, FILLING sweep, window read and
waiting SHEET_READY, step by step. -/

namespace Sys2Proof.Machine

/- A proof is elaborated in a task of its own. `set_option Elab.async false in` before a theorem makes the compile wait there
for the proofs before it, so that only a few are under way at a time; the linters, which would keep every proof's syntax
tree, are off, so that the compile of the whole text stays within its memory. -/
set_option linter.all false

open Sys2Proof

variable {s t u : State} {n : Nat} {x : Sheet}

/-! ### The steps -/

section Steps

variable {i : Fin 2} {w : Sweep}

theorem rewindIfFor_rewound (h : fillingSweep s = some (i, w)) (hw : w.sheet = n) :
    Rewound i w .closed true false true s (rewindIfFor n s) := by
  simp only [rewindIfFor, h, if_pos hw]
  exact rewind_rewound _ _ _ _ h

theorem rewindIfFor_other (h : ∀ i w, fillingSweep s = some (i, w) → w.sheet ≠ n) : rewindIfFor n s = s := by
  unfold rewindIfFor
  split
  · rename_i i w hw
    exact if_neg (h i w hw)
  · rfl

/-- The FILLING sweep stays where its slot stays and the other slot stays or is freed. -/
theorem fillingSweep_kept (h : fillingSweep s = some (i, w)) (here : u.ingest.slots[i]'i.2 = s.ingest.slots[i]'i.2)
    (there : ∀ j : Fin 2, u.ingest.slots[j]'j.2 = s.ingest.slots[j]'j.2 ∨ u.ingest.slots[j]'j.2 = .free) :
    fillingSweep u = some (i, w) := by
  have first (hi : i = 0) : fillingSweep u = some (i, w) := by
    subst hi
    have filling : (u.ingest.slots[(0 : Fin 2)]'(0 : Fin 2).2).filling? = some w := by
      rw [here]
      exact filling?_eq_some.mpr (slot_of_fillingSweep h)
    simp only [fillingSweep, filling]
  by_cases hi : i = 0
  · exact first hi
  · unfold fillingSweep at h
    split at h
    · cases h
      exact absurd rfl hi
    · rename_i h0
      obtain ⟨v, hv, e⟩ := Option.map_eq_some_iff.mp h
      cases e
      have none_ : (u.ingest.slots[(0 : Fin 2)]'(0 : Fin 2).2).filling? = none := by
        obtain same | free := there 0
        · rw [same]
          exact h0
        · rw [free]
          rfl
      have some_ : (u.ingest.slots[(1 : Fin 2)]'(1 : Fin 2).2).filling? = some w := by
        rw [here]
        exact hv
      simp only [fillingSweep, none_, some_, Option.map_some]

theorem abandonWindowOn_of {v : WindowRead} (h : s.window = some v) (hv : v.sheet = n) :
    abandonWindowOn n s = send .c (.cellReply v.tag 9 (.refused .noSheet) .empty) (dropWindow s) := by
  simp only [abandonWindowOn, h, if_pos hv]
  exact endWindowWith_some _ h

theorem abandonWindowOn_other (h : ∀ v, s.window = some v → v.sheet ≠ n) : abandonWindowOn n s = s := by
  unfold abandonWindowOn
  split
  · rename_i v hv
    exact if_neg (h v hv)
  · rfl

/-- The answer to the window read on sheet `n`, and to the SHEET_READY that waits on a sheet, as they end (R17). -/
def windowAnswerOn (n : Nat) (s : State) : List OutRecord := match s.window with
  | some w => if w.sheet = n then [.cellReply w.tag 9 (.refused .noSheet) .empty] else []
  | none => []

def readyAnswerOf (x : Sheet) : List OutRecord := match x.readyWaiting with
  | some r => [.cellReply r 5 (.refused .noSheet) .empty]
  | none => []

theorem abandonWindowOn_toSend (up : portUp s .c = true) :
    (linkOf (abandonWindowOn n s) .c).toSend = (linkOf s .c).toSend ++ windowAnswerOn n s := by
  by_cases h : ∃ v, s.window = some v ∧ v.sheet = n
  · obtain ⟨v, hw, hv⟩ := h
    have dropped := (dropWindow_unchanged s).links
    rw [abandonWindowOn_of hw hv, toSend_send _ ((portUp_congr .c dropped).trans up), linkOf_congr .c dropped]
    simp only [windowAnswerOn, hw, if_pos hv]
  · have other : ∀ v, s.window = some v → v.sheet ≠ n := fun v hw hv => h ⟨v, hw, hv⟩
    rw [abandonWindowOn_other other]
    cases hw : s.window with
    | none => simp only [windowAnswerOn, hw, List.append_nil]
    | some v => simp only [windowAnswerOn, hw, if_neg (other v hw), List.append_nil]

theorem abandonWindowOn_linkOf_other {p : Port} (hp : p ≠ .c) : linkOf (abandonWindowOn n s) p = linkOf s p := by
  by_cases h : ∃ v, s.window = some v ∧ v.sheet = n
  · obtain ⟨v, hw, hv⟩ := h
    rw [abandonWindowOn_of hw hv, linkOf_send_other _ hp, linkOf_congr p (dropWindow_unchanged s).links]
  · rw [abandonWindowOn_other fun v hw hv => h ⟨v, hw, hv⟩]

theorem refuseReady_of (hx : sheetAt s n = some x) :
    (∀ m, sheetAt (refuseReady n s) m = if m = n then some { x with readyWaiting := none } else sheetAt s m)
    ∧ (∀ p, p ≠ .c → linkOf (refuseReady n s) p = linkOf s p)
    ∧ (portUp s .c = true → (linkOf (refuseReady n s) .c).toSend = (linkOf s .c).toSend ++ readyAnswerOf x)
    ∧ portUp (refuseReady n s) .c = portUp s .c := by
  cases hr : x.readyWaiting with
  | none =>
    have kept : { x with readyWaiting := none } = x := by rw [← hr]
    have still : refuseReady n s = s := by simp only [refuseReady, hx, hr]
    rw [still]
    refine ⟨fun m => ?_, fun _ _ => rfl, fun _ => by simp only [readyAnswerOf, hr, List.append_nil], rfl⟩
    split
    · rename_i e
      rw [e, kept, hx]
    · rfl
  | some tag =>
    have set_ := setSheet_unchanged n (some { x with readyWaiting := none }) s
    have refused : refuseReady n s
        = send .c (.cellReply tag 5 (.refused .noSheet) .empty) (setSheet n (some { x with readyWaiting := none }) s) := by
      simp only [refuseReady, hx, hr]
      rfl
    rw [refused]
    refine ⟨fun m => ?_, fun p hp => ?_, fun up => ?_, ?_⟩
    · rw [sheetAt_congr (send_unchanged _ _ _).sheets]
      split
      · rename_i e
        rw [e]
        exact sheetAt_setSheet_same _ hx
      · rename_i other
        exact sheetAt_setSheet_other _ other
    · rw [linkOf_send_other _ hp, linkOf_congr p set_.links]
    · rw [toSend_send _ ((portUp_congr .c set_.links).trans up), linkOf_congr .c set_.links]
      simp only [readyAnswerOf, hr]
    · rw [portUp_send, portUp_congr .c set_.links]

set_option Elab.async false in
theorem inFlightFor_congr (h : t.port = s.port) (n : Nat) : inFlightFor t n = inFlightFor s n := by
  rw [inFlightFor, h, inFlightFor]

theorem inFlightFor_iff : inFlightFor s n = true ↔ ∃ o, s.port.inFlight = some o ∧ o.sheet = some n := by
  unfold inFlightFor
  split
  · rename_i o ho
    simp [ho]
  · rename_i ho
    simp [ho]

theorem inFlightFor_discardInFlight (p : InFlight → Bool) (s : State) (n : Nat) :
    inFlightFor (discardInFlight p s) n = inFlightFor s n := by
  cases ho : s.port.inFlight with
  | none => rw [discardInFlight_idle ho]
  | some o =>
    cases hp : p o with
    | false => rw [discardInFlight_not ho hp]
    | true =>
      rw [discardInFlight_of ho hp, inFlightFor, inFlightFor, ho]
      rfl

end Steps

end Sys2Proof.Machine
end

section
/-! SUPPORT. All the work of a sheet ended at its close, and the close answered or left waiting (R17, R18). -/

namespace Sys2Proof.Machine

/- A proof is elaborated in a task of its own. `set_option Elab.async false in` before a theorem makes the compile wait there
for the proofs before it, so that only a few are under way at a time; the linters, which would keep every proof's syntax
tree, are off, so that the compile of the whole text stays within its memory. -/
set_option linter.all false

open Sys2Proof

variable {s t u v : State} {n : Nat} {x : Sheet}

theorem BaseModeJudged.before (h : BaseModeJudged u t) (mode : u.sched.baseMode = s.sched.baseMode)
    (settings : u.settings = s.settings) (notices : u.notices = s.notices)
    (count : u.counters[cntWriteFirst]'cntWriteFirst.2 = s.counters[cntWriteFirst]'cntWriteFirst.2) : BaseModeJudged s t := by
  unfold BaseModeJudged at h ⊢
  rwa [mode, settings, notices, count] at h

theorem judgeBaseMode_rewoundSource (s : State) :
    (judgeBaseMode s).notices.pending.getLsbD 1 = s.notices.pending.getLsbD 1 := by
  cases hm : s.sched.baseMode with
  | readFirst =>
    by_cases h : s.settings.drainHigh ≤ s.drain.queue.length
    · rw [judgeBaseMode_enter hm h]
      show (s.notices.pending ||| srcDrainPressure).getLsbD 1 = _
      rw [BitVec.getLsbD_or, show srcDrainPressure.getLsbD 1 = false by decide, Bool.or_false]
    · rw [judgeBaseMode_stay_readFirst hm (Nat.lt_of_not_le h)]
  | writeFirst =>
    rw [judgeBaseMode_writeFirst hm]
    split <;> rfl

/-- The parts that `QueuesEnded` speaks of. -/
abbrev endedParts : List Block := [.drain, .ingest, .buffers, .spindles, .counters, .links, .port, .queries, .sched, .notices]

/-- The queries of a sheet answered and removed, its jobs removed and its entries dropped, the base mode judged. -/
structure QueuesEnded (n : Nat) (s t : State) : Prop where
  drain : t.drain = ⟨s.drain.jobs.filter (fun j => j.sheetOf != n), s.drain.queue.filter (fun e => e.sheet != n)⟩
  records : t.queries.records = s.queries.records.filter (fun r => r.sheet != n)
  spindles : ∀ m : Fin 6, t.spindles[m]'m.2 = { s.spindles[m]'m.2 with
    held := heldAfter (s.spindles[m]'m.2).held (s.queries.records.filter (fun r => r.spindle == m && r.sheet == n)) }
  replies : ∀ m : Fin 6, portUp s (.s m) = true → (linkOf t (.s m)).toSend = (linkOf s (.s m)).toSend
    ++ heldReplies .heldNoSheet s.time.frame (s.spindles[m]'m.2).held
      (s.queries.records.filter (fun r => r.spindle == m && r.sheet == n))
  others : ∀ p : Port, (∀ m, p ≠ .s m) → linkOf t p = linkOf s p
  counted : ∀ k, k ≠ cntDeadline → k ≠ cntWriteFirst → t.counters[k]'k.2 = if cntOtherHeld = k
    then s.counters[k]'k.2 + BitVec.ofNat 32 (s.queries.records.countP (fun r => r.sheet == n)) else s.counters[k]'k.2
  slotsFreed : ∀ (i : Fin 2) y k, Job.sweep i n y k ∈ s.drain.jobs → t.ingest.slots[i]'i.2 = .free
  slotsKept : ∀ i : Fin 2, (∀ y k, Job.sweep i n y k ∉ s.drain.jobs) → t.ingest.slots[i]'i.2 = s.ingest.slots[i]'i.2
  buffers : ∀ b : Fin 4, t.buffers[b]'b.2
    = if s.drain.jobs.any (fun j => j.buffer? == some b && j.sheetOf == n) then none else s.buffers[b]'b.2
  judged : BaseModeJudged s t
  rewoundSource : t.notices.pending.getLsbD 1 = s.notices.pending.getLsbD 1
  flying : inFlightFor t n = inFlightFor s n
  unchanged : Unchanged endedParts s t

theorem ofSpindle_sheet (m : Fin 6) (rs : List QueryRecord) : ofSpindle m (rs.filter (fun r => r.sheet == n))
    = rs.filter (fun r => r.spindle == m && r.sheet == n) := List.filter_filter

theorem queuesEnded (n : Nat) (s : State) : QueuesEnded n s
    (removeEntries n (removeJobs (fun j => j.sheetOf == n) (answerAndRemove (fun r => r.sheet == n) .heldNoSheet s))) := by
  have answered := answeredAndRemoved_held (o := .heldNoSheet) (by decide) (by decide) (fun r => r.sheet == n) s
  obtain ⟨a, ha⟩ : ∃ a, answerAndRemove (fun r => r.sheet == n) .heldNoSheet s = a := ⟨_, rfl⟩
  rw [ha] at answered ⊢
  have jobs := removeJobs_unchanged (fun j => j.sheetOf == n) a
  have jobs_drain := removeJobs_drain (fun j => j.sheetOf == n) a
  have jobs_slots (i : Fin 2) := slots_removeJobs (fun j => j.sheetOf == n) i a
  have jobs_buffers (b : Fin 4) := buffers_removeJobs (fun j => j.sheetOf == n) b a
  obtain ⟨b, hb⟩ : ∃ b, removeJobs (fun j => j.sheetOf == n) a = b := ⟨_, rfl⟩
  simp only [hb] at jobs jobs_drain jobs_slots jobs_buffers ⊢
  have dropped := setDrain_unchanged { b.drain with queue := b.drain.queue.filter (fun e => e.sheet != n) } b
  obtain ⟨c, hc⟩ : ∃ c, b.setDrain { b.drain with queue := b.drain.queue.filter (fun e => e.sheet != n) } = c := ⟨_, rfl⟩
  have c_drain : c.drain = { b.drain with queue := b.drain.queue.filter (fun e => e.sheet != n) } := hc ▸ rfl
  have judged := judgeBaseMode_sends_nothing c
  have ended : removeEntries n b = judgeBaseMode c := congrArg judgeBaseMode hc
  rw [hc] at dropped
  rw [ended]
  have drain : a.drain = s.drain := answered.unchanged.drain
  have counters {k : Fin 28} (h : k ≠ cntDeadline) : a.counters[k]'k.2 = if cntOtherHeld = k
      then s.counters[k]'k.2 + BitVec.ofNat 32 (s.queries.records.filter (fun r => r.sheet == n)).length
      else s.counters[k]'k.2 := answered.counted cntOtherHeld k rfl h
  have links : (judgeBaseMode c).links = a.links := by rw [judged.links, dropped.links, jobs.links]
  refine ⟨?_, ?_, fun m => ?_, fun m up => ?_, fun p hp => ?_, fun k hd hw => ?_, fun i y k hj => ?_,
    fun i hj => ?_, fun k => ?_, ?_, ?_, ?_, ?_⟩
  · rw [judged.drain, c_drain, jobs_drain, drain]
    rfl
  · rw [judged.queries, dropped.queries, jobs.queries, answered.queries]
    rfl
  · rw [judged.spindles, dropped.spindles, jobs.spindles, answered.spindles m, ofSpindle_sheet]
    rfl
  · rw [linkOf_congr _ links, answered.links m, if_pos up, repliesBy_min, ofSpindle_sheet]
  · rw [linkOf_congr p links, answered.others p hp]
  · rw [judgeBaseMode_counters_other c hw.symm, dropped.counters, jobs.counters, counters hd, List.countP_eq_length_filter]
  · rw [judged.ingest, dropped.ingest, jobs_slots, drain]
    exact if_pos ⟨_, hj, beq_self_eq_true n, rfl⟩
  · rw [judged.ingest, dropped.ingest, jobs_slots, drain, answered.unchanged.ingest]
    refine if_neg fun ⟨j, inside, sheet, slot⟩ => ?_
    obtain ⟨m, y, k, rfl⟩ := slot?_eq_some.mp slot
    cases eq_of_beq sheet
    exact hj y k inside
  · rw [judged.buffers, dropped.buffers, jobs_buffers, drain, answered.unchanged.buffers]
    refine if_congr ?_ rfl rfl
    simp only [List.any_eq_true, Bool.and_eq_true, beq_iff_eq]
    exact exists_congr fun j => and_congr_right fun _ => and_comm
  · refine (baseModeJudged_judgeBaseMode c).before ?_ ?_ ?_ ?_
    · rw [dropped.sched, jobs.sched, answered.sched]
    · rw [dropped.settings, jobs.settings, answered.unchanged.settings]
    · rw [dropped.notices, jobs.notices, answered.unchanged.notices]
    · rw [dropped.counters, jobs.counters, counters (by decide), if_neg (by decide)]
  · rw [judgeBaseMode_rewoundSource, dropped.notices, jobs.notices, answered.unchanged.notices]
  · rw [inFlightFor_congr (judged.port.trans (dropped.port.trans jobs.port)), inFlightFor_congr answered.port,
      inFlightFor_discardInFlight]
  · exact (((answered.unchanged.mono (c := endedParts) (by decide)).andThen jobs).andThen dropped).andThen judged

/-- The FILLING sweep of the sheet rewound, its window read and its waiting SHEET_READY ended, and an operation for it in
flight to be discarded. -/
def endReaders (n : Nat) (s : State) : State :=
  discardInFlight (fun o => o.sheet == some n) (refuseReady n (abandonWindowOn n (rewindIfFor n s)))

theorem settleSheetWork_eq (n : Nat) (s : State) : settleSheetWork n s = endReaders n
    (removeEntries n (removeJobs (fun j => j.sheetOf == n) (answerAndRemove (fun r => r.sheet == n) .heldNoSheet s))) := rfl

/-- What `endReaders` does. -/
structure ReadersEnded (n : Nat) (x : Sheet) (s t : State) : Prop where
  slots : ∀ i : Fin 2, (∀ w, fillingSweep s = some (i, w) → w.sheet ≠ n) → t.ingest.slots[i]'i.2 = s.ingest.slots[i]'i.2
  rewound : ∀ (i : Fin 2) w, fillingSweep s = some (i, w) → w.sheet = n → t.ingest.slots[i]'i.2 = .free
    ∧ t.counters[cntSweepsRewound]'cntSweepsRewound.2 = s.counters[cntSweepsRewound]'cntSweepsRewound.2 + 1
    ∧ (portUp s .t = true → (linkOf t .t).toSend = (linkOf s .t).toSend ++ [.sweepResult w.tag .rewound w.row .closed])
  counters : ∀ k, cntSweepsRewound ≠ k → t.counters[k]'k.2 = s.counters[k]'k.2
  links : ∀ p, p ≠ .t → p ≠ .c → linkOf t p = linkOf s p
  answers : portUp s .c = true → (linkOf t .c).toSend = (linkOf s .c).toSend ++ windowAnswerOn n s ++ readyAnswerOf x
  up : portUp t .c = portUp s .c
  windowGone : ∀ w, s.window = some w → w.sheet = n → t.window = none
  windowStays : (∀ w, s.window = some w → w.sheet ≠ n) → t.window = s.window
  sheets : ∀ m, sheetAt t m = if m = n then some { x with readyWaiting := none } else sheetAt s m
  flying : inFlightFor t n = inFlightFor s n
  discarded : inFlightFor s n = true → ∃ o, t.port.inFlight = some o ∧ o.sheet = some n ∧ o.discard = true
  unchanged : Unchanged [.ingest, .links, .counters, .window, .port, .sheets] s t

theorem rewindIfFor_unchanged_quiet (n : Nat) (s : State) : Unchanged [.ingest, .links, .counters] s (rewindIfFor n s) := by
  by_cases h : ∃ i w, fillingSweep s = some (i, w) ∧ w.sheet = n
  · obtain ⟨i, w, hf, hw⟩ := h
    have quiet : (rewindIfFor n s).notices = s.notices := (rewindIfFor_rewound hf hw).notices
    have all := rewindIfFor_unchanged (s := s) n
    intro b hb
    by_cases hn : b = .notices
    · rw [hn]
      exact quiet
    · exact all b (by simp only [List.mem_cons, not_or] at hb ⊢; tauto)
  · rw [rewindIfFor_other fun i w hf hw => h ⟨i, w, hf, hw⟩]
    exact .refl _ s

theorem rewindIfFor_linkOf_other {p : Port} (hp : p ≠ .t) (n : Nat) (s : State) : linkOf (rewindIfFor n s) p = linkOf s p := by
  by_cases h : ∃ i w, fillingSweep s = some (i, w) ∧ w.sheet = n
  · obtain ⟨i, w, hf, hw⟩ := h
    rw [linkOf_congr p (rewindIfFor_rewound hf hw).links]
    exact linkOf_send_other _ hp
  · rw [rewindIfFor_other fun i w hf hw => h ⟨i, w, hf, hw⟩]

theorem inFlightFor_abandonWindowOn (m : Nat) : inFlightFor (abandonWindowOn n s) m = inFlightFor s m := by
  by_cases h : ∃ v, s.window = some v ∧ v.sheet = n
  · obtain ⟨v, hw, hv⟩ := h
    rw [abandonWindowOn_of hw hv, inFlightFor_congr (send_unchanged _ _ _).port, inFlightFor_congr (dropWindow_port s),
      inFlightFor_discardInFlight]
  · rw [abandonWindowOn_other fun v hw hv => h ⟨v, hw, hv⟩]

set_option Elab.async false in
theorem portUp_abandonWindowOn : portUp (abandonWindowOn n s) .c = portUp s .c := by
  by_cases h : ∃ v, s.window = some v ∧ v.sheet = n
  · obtain ⟨v, hw, hv⟩ := h
    rw [abandonWindowOn_of hw hv, portUp_send, portUp_congr .c (dropWindow_unchanged s).links]
  · rw [abandonWindowOn_other fun v hw hv => h ⟨v, hw, hv⟩]

theorem readersEnded (hx : sheetAt s n = some x) : ReadersEnded n x s (endReaders n s) := by
  have rewound {i : Fin 2} {w : Sweep} (h : fillingSweep s = some (i, w)) (hw : w.sheet = n) := rewindIfFor_rewound h hw
  have still (h : ∀ i w, fillingSweep s = some (i, w) → w.sheet ≠ n) : rewindIfFor n s = s := rewindIfFor_other h
  have first := rewindIfFor_unchanged_quiet n s
  have first_links {p : Port} (hp : p ≠ .t) := rewindIfFor_linkOf_other hp n s
  obtain ⟨a, ha⟩ : ∃ a, rewindIfFor n s = a := ⟨_, rfl⟩
  have first_up : portUp a .c = portUp s .c := by rw [← ha, portUp, first_links (by decide), portUp]
  simp only [ha] at rewound still first first_links
  have gone {w : WindowRead} (hw : a.window = some w) (hs : w.sheet = n) : (abandonWindowOn n a).window = none := by
    rw [abandonWindowOn_of hw hs, (send_unchanged _ _ _).window, dropWindow_window]
  have stays (h : ∀ w, a.window = some w → w.sheet ≠ n) : abandonWindowOn n a = a := abandonWindowOn_other h
  have second := abandonWindowOn_unchanged (s := a) n
  have second_c (up : portUp a .c = true) := abandonWindowOn_toSend (n := n) up
  have second_links {p : Port} (hp : p ≠ .c) := abandonWindowOn_linkOf_other (s := a) (n := n) hp
  have second_up := portUp_abandonWindowOn (s := a) (n := n)
  have second_flying (m : Nat) := inFlightFor_abandonWindowOn (s := a) (n := n) m
  obtain ⟨b, hb⟩ : ∃ b, abandonWindowOn n a = b := ⟨_, rfl⟩
  simp only [hb] at gone stays second second_c second_links second_up second_flying
  have hx' : sheetAt b n = some x := by rw [sheetAt_congr second.sheets, sheetAt_congr first.sheets, hx]
  obtain ⟨third_sheets, third_links, third_c, third_up⟩ := refuseReady_of hx'
  have third := refuseReady_unchanged n b
  obtain ⟨c, hc⟩ : ∃ c, refuseReady n b = c := ⟨_, rfl⟩
  rw [hc] at third_links third_c third_up third
  simp only [hc] at third_sheets
  have last := discardInFlight_unchanged (fun o => o.sheet == some n) c
  have last_flying := inFlightFor_discardInFlight (fun o => o.sheet == some n) c n
  have end_ : endReaders n s = discardInFlight (fun o => o.sheet == some n) c := by rw [endReaders, ha, hb, hc]
  have last_port {o : InFlight} (ho : c.port.inFlight = some o) (hs : o.sheet = some n) :
      (endReaders n s).port.inFlight = some { o with discard := true } := by
    rw [end_, discardInFlight_of ho (by rw [hs]; exact beq_self_eq_true _)]
    rfl
  have flying : inFlightFor c n = inFlightFor s n := by
    rw [inFlightFor_congr third.port, second_flying, inFlightFor_congr first.port]
  rw [← end_] at last last_flying
  obtain ⟨t, ht⟩ : ∃ t, endReaders n s = t := ⟨_, rfl⟩
  rw [ht] at last last_flying
  simp only [ht] at last_port
  rw [ht]
  have window : t.window = b.window := last.window.trans third.window
  have ingest : t.ingest = a.ingest := by rw [last.ingest, third.ingest, second.ingest]
  have counters : t.counters = a.counters := by rw [last.counters, third.counters, second.counters]
  refine ⟨fun i other => ?_, fun i w hf hw => ⟨?_, ?_, fun up => ?_⟩, fun k hk => ?_, fun p hp hp' => ?_, fun up => ?_, ?_,
    fun w hw hs => ?_, fun other => ?_, fun m => ?_, last_flying.trans flying, fun inside => ?_, ?_⟩
  · rw [ingest]
    by_cases h : ∃ j w, fillingSweep s = some (j, w) ∧ w.sheet = n
    · obtain ⟨j, w, hf, hw⟩ := h
      have apart : (j : Nat) ≠ i := fun e => other w (Fin.ext e ▸ hf) hw
      rw [(rewound hf hw).ingest]
      exact Vector.getElem_set_ne j.2 i.2 apart
    · rw [still fun j w hf hw => h ⟨j, w, hf, hw⟩]
  · rw [ingest, (rewound hf hw).ingest]
    exact Vector.getElem_set_self _
  · rw [counters, (rewound hf hw).counters]
    exact (getElem_set_counter _ _).trans (if_pos rfl)
  · rw [linkOf_congr _ last.links, third_links .t (by decide), second_links (by decide), linkOf_congr _ (rewound hf hw).links]
    exact toSend_send _ up
  · rw [counters]
    by_cases h : ∃ j w, fillingSweep s = some (j, w) ∧ w.sheet = n
    · obtain ⟨j, w, hf, hw⟩ := h
      rw [(rewound hf hw).counters]
      exact (getElem_set_counter _ _).trans (if_neg hk)
    · rw [still fun j w hf hw => h ⟨j, w, hf, hw⟩]
  · rw [linkOf_congr p last.links, third_links p hp', second_links hp', first_links hp]
  · have up_a : portUp a .c = true := first_up.trans up
    have answered : windowAnswerOn n a = windowAnswerOn n s := by rw [windowAnswerOn, first.window, windowAnswerOn]
    rw [linkOf_congr .c last.links, third_c (second_up.trans up_a), second_c up_a, answered, first_links (by decide)]
  · rw [portUp_congr .c last.links, third_up, second_up, first_up]
  · rw [window, gone (first.window.trans hw) hs]
  · rw [window, stays (by rw [first.window]; exact other), first.window]
  · rw [sheetAt_congr last.sheets, third_sheets]
    split
    · rfl
    · rw [sheetAt_congr second.sheets, sheetAt_congr first.sheets]
  · obtain ⟨o, ho, hs⟩ := inFlightFor_iff.mp (flying.trans inside)
    exact ⟨_, last_port ho hs, hs, rfl⟩
  · exact (((first.mono (c := [.ingest, .links, .counters, .window, .port, .sheets]) (by decide)).andThen second).andThen
      third).andThen last

end Sys2Proof.Machine
end

section
/-! SUPPORT. SHEET_CLOSE from its sheet's work to its answer: the obligation (R16 to R18). -/

namespace Sys2Proof.Machine

/- A proof is elaborated in a task of its own. `set_option Elab.async false in` before a theorem makes the compile wait there
for the proofs before it, so that only a few are under way at a time; the linters, which would keep every proof's syntax
tree, are off, so that the compile of the whole text stays within its memory. -/
set_option linter.all false

open Sys2Proof

variable {s t : State} {n : Nat} {x : Sheet} {q : Request}

/-- The close at the end: RETIRING with the close waiting, or FREE with it answered. -/
theorem retireOrFree_of (hx : sheetAt s n = some x) :
    (∀ m, m ≠ n → sheetAt (retireOrFree q n s) m = sheetAt s m)
    ∧ (∀ p, p ≠ .c → linkOf (retireOrFree q n s) p = linkOf s p)
    ∧ (portUp s .c = true → (linkOf (retireOrFree q n s) .c).toSend = (linkOf s .c).toSend
        ++ if inFlightFor s n then [] else [.cellReply q.tag q.body.kind .done .empty])
    ∧ (inFlightFor s n = false → sheetAt (retireOrFree q n s) n = none)
    ∧ (inFlightFor s n = true → sheetAt (retireOrFree q n s) n = some { x with state := .retiring, closeWaiting := some q.tag }) := by
  cases flying : inFlightFor s n with
  | true =>
    have set_ := setSheet_unchanged n (some { x with state := .retiring, closeWaiting := some q.tag }) s
    simp only [retireOrFree, flying, hx, if_true]
    exact ⟨fun m hm => sheetAt_setSheet_other _ hm, fun p _ => linkOf_congr p set_.links,
      fun _ => by rw [linkOf_congr .c set_.links, List.append_nil], nofun, fun _ => sheetAt_setSheet_same _ hx⟩
  | false =>
    have set_ := setSheet_unchanged n none s
    have answered := answerRequest_unchanged q .done (setSheet n none s)
    have freed : retireOrFree q n s = answerRequest q .done (setSheet n none s) := if_neg (by rw [flying]; decide)
    rw [freed]
    refine ⟨fun m hm => ?_, fun p hp => ?_, fun up => ?_, fun _ => ?_, nofun⟩
    · rw [sheetAt_congr answered.sheets, sheetAt_setSheet_other _ hm]
    · exact (linkOf_send_other _ hp).trans (linkOf_congr p set_.links)
    · rw [toSend_answerRequest _ ((portUp_congr .c set_.links).trans up), linkOf_congr .c set_.links]
      rfl
    · rw [sheetAt_congr answered.sheets, sheetAt_setSheet_same _ hx]

theorem takeSheetClose_closes (hx : sheetAt s n = some x) (hs : x.state ≠ .retiring) :
    takeSheetClose q n s = retireOrFree q n (settleSheetWork n s) := by
  have low : ¬ 15 < n := by
    have := lt_of_sheetAt hx
    omega
  simp only [takeSheetClose, if_neg low, hx, if_neg hs]

/-- Settles O15. -/
theorem sheetCloseEndsTheWorkOfTheSheet : Obligations.SheetCloseEndsTheWorkOfTheSheet := by
  unfold Obligations.SheetCloseEndsTheWorkOfTheSheet
  refine ⟨fun s tag n x rest front hx hs => ?_, fun s tag n rest front => ?_⟩
  · intro mine windowAnswer readyAnswer
    set q : Request := ⟨tag, .sheetClose n⟩ with hq
    set s₀ := s.setCellQueue rest with hs₀
    have hx₀ : sheetAt s₀ n = some x := hx
    have taken : exec (.sheetClose tag n) s = .next (takeSheetClose q n s₀) := takeRequest_front front
    have kept := takeSheetClose_unchanged s₀ q n
    rw [takeSheetClose_closes hx₀ hs, settleSheetWork_eq] at taken kept
    have queues := queuesEnded n s₀
    obtain ⟨a, ha⟩ : ∃ a, removeEntries n (removeJobs (fun j => j.sheetOf == n)
      (answerAndRemove (fun r => r.sheet == n) .heldNoSheet s₀)) = a := ⟨_, rfl⟩
    rw [ha] at taken kept queues
    have readers := readersEnded ((sheetAt_congr queues.unchanged.sheets n).trans hx₀)
    obtain ⟨b, hb⟩ : ∃ b, endReaders n a = b := ⟨_, rfl⟩
    rw [hb] at taken kept readers
    have hb_n : sheetAt b n = some { x with readyWaiting := none } := (readers.sheets n).trans (if_pos rfl)
    obtain ⟨others, links, answered, freed, retires⟩ := retireOrFree_of (q := q) hb_n
    have last := retireOrFree_unchanged b q n
    obtain ⟨t, ht⟩ : ∃ t, retireOrFree q n b = t := ⟨_, rfl⟩
    rw [ht] at taken last answered freed retires kept
    simp only [ht] at others links
    have flying : inFlightFor b n = inFlightFor s n := readers.flying.trans queues.flying
    have window_a : a.window = s.window := queues.unchanged.window
    have counters (k : Fin 28) : t.counters[k]'k.2 = b.counters[k]'k.2 := by rw [last.counters]
    have slots (i : Fin 2) : t.ingest.slots[i]'i.2 = b.ingest.slots[i]'i.2 := by rw [last.ingest]
    have drain : t.drain = a.drain := last.drain.trans readers.unchanged.drain
    have queries : t.queries = a.queries := last.queries.trans readers.unchanged.queries
    have spindles : t.spindles = a.spindles := last.spindles.trans readers.unchanged.spindles
    have buffers : t.buffers = a.buffers := last.buffers.trans readers.unchanged.buffers
    have notices : t.notices = a.notices := last.notices.trans readers.unchanged.notices
    have sched : t.sched = a.sched := last.sched.trans readers.unchanged.sched
    have queues_jobs : a.drain.jobs = _ := congrArg Drain.jobs queues.drain
    have queues_entries : a.drain.queue = _ := congrArg Drain.queue queues.drain
    have window : t.window = (match s.window with
        | some w => if w.sheet = n then none else some w
        | none => none) := by
      rw [last.window]
      cases hw : s.window with
      | none => exact (readers.windowStays (by rw [window_a, hw]; nofun)).trans (window_a.trans hw)
      | some w =>
        dsimp only
        split
        · rename_i here
          exact readers.windowGone w (window_a.trans hw) here
        · rename_i other
          exact (readers.windowStays fun v hv => by cases hw.symm.trans (window_a.symm.trans hv); exact other).trans (window_a.trans hw)
    have c_link : linkOf a .c = linkOf s .c := queues.others .c (by decide)
    have t_link : linkOf a .t = linkOf s .t := queues.others .t (by decide)
    have up_c : portUp a .c = portUp s .c := by rw [portUp, c_link, portUp]
    have up_t : portUp a .t = portUp s .t := by rw [portUp, t_link, portUp]
    have up_b : portUp b .c = portUp s .c := readers.up.trans up_c
    have after {p : Port} (hp : p ≠ .t) (hc : p ≠ .c) : linkOf t p = linkOf a p := (links p hc).trans (readers.links p hp hc)
    have counted (k : Fin 28) (hd : k ≠ cntDeadline) (hw : k ≠ cntWriteFirst) (hr : cntSweepsRewound ≠ k) := calc
      t.counters[k]'k.2 = a.counters[k]'k.2 := (counters k).trans (readers.counters k hr)
      _ = _ := queues.counted k hd hw
    have untouched (k : Fin 28) (hd : k ≠ cntDeadline) (hw : k ≠ cntWriteFirst) (hr : cntSweepsRewound ≠ k)
        (ho : cntOtherHeld ≠ k) : t.counters[k]'k.2 = s.counters[k]'k.2 + BitVec.ofNat 32 0 :=
      ((counted k hd hw hr).trans (if_neg ho)).trans (BitVec.add_zero _).symm
    have kept_slots (j : Fin 2) : a.ingest.slots[j]'j.2 = s.ingest.slots[j]'j.2 ∨ a.ingest.slots[j]'j.2 = .free := by
      by_cases h : ∃ y k, Job.sweep j n y k ∈ s.drain.jobs
      · obtain ⟨y, k, hj⟩ := h
        exact .inr (queues.slotsFreed j y k hj)
      · exact .inl (queues.slotsKept j fun y k hj => h ⟨y, k, hj⟩)
    have stays_filling {i : Fin 2} {w : Sweep} (hf : fillingSweep s = some (i, w))
        (hj : ∀ y k, Job.sweep i n y k ∉ s.drain.jobs) : fillingSweep a = some (i, w) :=
      fillingSweep_kept hf (queues.slotsKept i hj) kept_slots
    refine ⟨t, taken, (congrArg Drain.jobs drain).trans queues_jobs, (congrArg Drain.queue drain).trans queues_entries,
      (congrArg (·.records) queries).trans queues.records, window, fun m hm => ?_,
      ⟨untouched cntCut (by decide) (by decide) (by decide) (by decide),
        untouched cntHeldVoid (by decide) (by decide) (by decide) (by decide),
        untouched cntHeldAhead (by decide) (by decide) (by decide) (by decide),
        untouched cntHeldLate (by decide) (by decide) (by decide) (by decide),
        (counted cntOtherHeld (by decide) (by decide) (by decide)).trans (if_pos rfl)⟩,
      fun m => ⟨?_, fun up => ?_⟩,
      fun i => ⟨fun ⟨y, k, hj⟩ => ?_, fun hj hf => ?_, fun w hf hw hj => ⟨?_, ?_, fun up => ?_⟩⟩, ?_, fun j => ?_, ?_, fun up => ?_,
      fun idle => freed (flying.trans idle), fun inside => ⟨?_, ?_⟩, kept.cellQueue, kept.mem, kept.time, kept.settings⟩
    · rw [others m hm, readers.sheets, if_neg hm, sheetAt_congr queues.unchanged.sheets]
      rfl
    · rw [spindles]
      exact queues.spindles m
    · rw [after (by simp) (by simp)]
      exact queues.replies m up
    · rw [slots]
      have freed_a := queues.slotsFreed i y k hj
      refine (readers.slots i fun w hf _ => ?_).trans freed_a
      cases (slot_of_fillingSweep hf).symm.trans freed_a
    · have here := queues.slotsKept i hj
      refine (slots i).trans ((readers.slots i fun w hw => ?_).trans here)
      exact hf w (here.symm.trans (slot_of_fillingSweep hw))
    · exact (slots i).trans (readers.rewound i w (stays_filling hf hj) hw).1
    · rw [counters, (readers.rewound i w (stays_filling hf hj) hw).2.1,
        queues.counted cntSweepsRewound (by decide) (by decide), if_neg (by decide)]
      rfl
    · rw [links .t (by decide), (readers.rewound i w (stays_filling hf hj) hw).2.2 (up_t.trans up), t_link]
    · rw [notices]
      exact queues.rewoundSource
    · rw [buffers]
      exact queues.buffers j
    · exact queues.judged.kept drain (congrArg (·.baseMode) sched) (by rw [notices])
        ((counters _).trans (readers.counters _ (by decide)))
    · rw [answered (up_b.trans up), readers.answers (up_c.trans up), c_link, flying, windowAnswerOn, window_a]
      rfl
    · obtain ⟨o, ho, sheet, discard⟩ := readers.discarded (queues.flying.trans inside)
      exact ⟨o, last.port ▸ ho, sheet, discard⟩
    · exact ⟨_, retires (flying.trans inside), rfl, rfl, rfl, rfl⟩
  · set q : Request := ⟨tag, .sheetClose n⟩ with hq
    have taken : exec (.sheetClose tag n) s = .next (takeSheetClose q n (s.setCellQueue rest)) := takeRequest_front front
    refine ⟨_, taken, fun high => ?_, fun low hx => ?_, fun x hx hs => ?_⟩
    · rw [takeSheetClose, if_pos high]
      exact refused_answerRequest _
    · have hx₀ : sheetAt (s.setCellQueue rest) n = none := hx
      simp only [takeSheetClose, if_neg (Nat.not_lt.mpr low), hx₀]
      exact refused_answerRequest _
    · have hx₀ : sheetAt (s.setCellQueue rest) n = some x := hx
      have low : ¬ 15 < n := by
        have := lt_of_sheetAt hx
        omega
      simp only [takeSheetClose, if_neg low, hx₀, if_pos hs]
      exact refused_answerRequest _

end Sys2Proof.Machine
end

section
/-! SUPPORT. The sheets at service reset (R21): each is kept or given up, its waiting requests answered. -/

namespace Sys2Proof.Machine

/- A proof is elaborated in a task of its own. `set_option Elab.async false in` before a theorem makes the compile wait there
for the proofs before it, so that only a few are under way at a time; the linters, which would keep every proof's syntax
tree, are off, so that the compile of the whole text stays within its memory. -/
set_option linter.all false

open Sys2Proof

variable {s t u : State} {n : Nat} {x : Sheet}

/-- The answer to a SHEET_CLOSE that waits, where the reset makes its sheet FREE. -/
def closeAnswerOf (flying : Bool) (x : Sheet) : List OutRecord := match x.closeWaiting with
  | some c => if x.state = .scanning ∨ x.state = .ready ∨ flying = true then [] else [.cellReply c 6 .done .empty]
  | none => []

/-- The answers to the requests that wait on a sheet. -/
def resetAnswersOf (flying : Bool) (o : Option Sheet) : List OutRecord := match o with
  | some x => readyAnswerOf x ++ closeAnswerOf flying x
  | none => []

/-- The sheet that a service reset leaves. -/
def sheetKept (flying : Bool) (x : Sheet) : Option Sheet := sheetAtServiceReset flying { x with readyWaiting := none }

theorem sheetKept_scanning (flying : Bool) (hs : x.state = .scanning) :
    sheetKept flying x = some { x with readyWaiting := none } := by
  simp only [sheetKept, sheetAtServiceReset, hs]

theorem sheetKept_ready (flying : Bool) (hs : x.state = .ready) :
    sheetKept flying x = some { x with readyWaiting := none } := by
  simp only [sheetKept, sheetAtServiceReset, hs]

theorem sheetKept_other (flying : Bool) (hr : x.state ≠ .ready) (hs : x.state ≠ .scanning) :
    sheetKept flying x = if flying then some { x with readyWaiting := none, state := .retiring } else none := by
  cases e : x.state with
  | ready => exact absurd e hr
  | scanning => exact absurd e hs
  | filling | loading | retiring => simp only [sheetKept, sheetAtServiceReset, e]

/-- A close that waits is answered by the reset just where its sheet becomes FREE. -/
theorem closeAnswerOf_kept {flying : Bool} {y : Sheet} (h : sheetKept flying x = some y) : closeAnswerOf flying x = [] := by
  have kept : x.state = .scanning ∨ x.state = .ready ∨ flying = true := by
    by_cases hs : x.state = .scanning
    · exact .inl hs
    · by_cases hr : x.state = .ready
      · exact .inr (.inl hr)
      · rw [sheetKept_other flying hr hs] at h
        cases flying
        · nomatch h
        · exact .inr (.inr rfl)
  unfold closeAnswerOf
  split
  · exact if_pos kept
  · rfl

theorem not_kept_of_sheetKept_none {flying : Bool} (h : sheetKept flying x = none) :
    ¬ (x.state = .scanning ∨ x.state = .ready ∨ flying = true) := by
  rintro (hs | hr | rfl)
  · rw [sheetKept_scanning flying hs] at h
    nomatch h
  · rw [sheetKept_ready flying hr] at h
    nomatch h
  · cases e : x.state <;> simp [sheetKept, sheetAtServiceReset, e] at h

/-- What the reset of the sheets with the numbers `ns` does: each is kept or given up, and its answers go out in order. -/
structure SheetsReset (ns : List Nat) (s t : State) : Prop where
  sheets : ∀ m, sheetAt t m = if m ∈ ns then (sheetAt s m).bind (sheetKept (inFlightFor s m)) else sheetAt s m
  others : ∀ p, p ≠ .c → linkOf t p = linkOf s p
  answers : portUp s .c = true → (linkOf t .c).toSend
    = (linkOf s .c).toSend ++ ns.flatMap (fun m => resetAnswersOf (inFlightFor s m) (sheetAt s m))
  up : portUp t .c = portUp s .c

theorem sheetsReset_still (h : sheetAt s n = none) : SheetsReset [n] s s := by
  refine ⟨fun m => ?_, fun _ _ => rfl, fun _ => ?_, rfl⟩
  · by_cases e : m = n
    · rw [e, h]
      exact (if_pos (List.mem_singleton.mpr rfl)).symm
    · rw [if_neg (by simpa using e)]
  · simp [h, resetAnswersOf]

theorem sheetsReset_resetSheet (n : Nat) (s : State) : SheetsReset [n] s (resetSheet n s) := by
  cases hx : sheetAt s n with
  | none =>
    have still : refuseReady n s = s := by simp only [refuseReady, hx]
    have same : resetSheet n s = s := by simp only [resetSheet, still, hx]
    rw [same]
    exact sheetsReset_still hx
  | some x =>
    obtain ⟨sheets, links, answers, up⟩ := refuseReady_of hx
    have port := (refuseReady_unchanged n s).port
    have same : resetSheet n s = (match sheetAt (refuseReady n s) n with
      | none => refuseReady n s
      | some x => match sheetAtServiceReset (inFlightFor (refuseReady n s) n) x with
        | some x' => setSheet n (some x') (refuseReady n s)
        | none => match x.closeWaiting with
          | some tag => reply tag (CellRequest.sheetClose n).kind .done .empty (setSheet n none (refuseReady n s))
          | none => setSheet n none (refuseReady n s)) := rfl
    obtain ⟨a, ha⟩ : ∃ a, refuseReady n s = a := ⟨_, rfl⟩
    rw [ha] at links answers up port same
    simp only [ha] at sheets
    have ha_n : sheetAt a n = some { x with readyWaiting := none } := (sheets n).trans (if_pos rfl)
    simp only [ha_n, inFlightFor_congr port] at same
    have written (o : Option Sheet) (ho : sheetKept (inFlightFor s n) x = o) (m : Nat) : sheetAt (setSheet n o a) m
        = if m ∈ [n] then (sheetAt s m).bind (sheetKept (inFlightFor s m)) else sheetAt s m := by
      by_cases e : m = n
      · rw [e, if_pos (List.mem_singleton.mpr rfl), hx, Option.bind_some, ho]
        exact sheetAt_setSheet_same _ ha_n
      · rw [if_neg (by simpa using e), sheetAt_setSheet_other _ e, sheets, if_neg e]
    have set_links (o : Option Sheet) : (setSheet n o a).links = a.links := (setSheet_unchanged n o a).links
    have sent : [n].flatMap (fun m => resetAnswersOf (inFlightFor s m) (sheetAt s m))
        = readyAnswerOf x ++ closeAnswerOf (inFlightFor s n) x := by
      simp [hx, resetAnswersOf]
    cases kept : sheetKept (inFlightFor s n) x with
    | some y =>
      have e : sheetAtServiceReset (inFlightFor s n) { x with readyWaiting := none } = some y := kept
      simp only [e] at same
      rw [same]
      refine ⟨written _ kept, fun p hp => ?_, fun h => ?_, ?_⟩
      · rw [linkOf_congr p (set_links _), links p hp]
      · rw [sent, linkOf_congr .c (set_links _), answers h, closeAnswerOf_kept kept, List.append_nil]
      · rw [portUp_congr .c (set_links _), up]
    | none =>
      have e : sheetAtServiceReset (inFlightFor s n) { x with readyWaiting := none } = none := kept
      simp only [e] at same
      have free := not_kept_of_sheetKept_none kept
      cases hc : x.closeWaiting with
      | none =>
        simp only [hc] at same
        have silent : closeAnswerOf (inFlightFor s n) x = [] := by simp only [closeAnswerOf, hc]
        rw [same]
        refine ⟨written _ kept, fun p hp => ?_, fun h => ?_, ?_⟩
        · rw [linkOf_congr p (set_links _), links p hp]
        · rw [sent, linkOf_congr .c (set_links _), answers h, silent, List.append_nil]
        · rw [portUp_congr .c (set_links _), up]
      | some c =>
        simp only [hc] at same
        have answer : closeAnswerOf (inFlightFor s n) x = [.cellReply c 6 .done .empty] := by
          simp only [closeAnswerOf, hc, if_neg free]
        have said : resetSheet n s = send .c (.cellReply c 6 .done .empty) (setSheet n none a) := same
        rw [said]
        refine ⟨fun m => ?_, fun p hp => ?_, fun h => ?_, ?_⟩
        · rw [sheetAt_congr (send_unchanged _ _ _).sheets]
          exact written _ kept m
        · rw [linkOf_send_other _ hp, linkOf_congr p (set_links _), links p hp]
        · rw [sent, toSend_send _ ((portUp_congr .c (set_links _)).trans (up.trans h)), linkOf_congr .c (set_links _),
            answers h, answer, List.append_assoc]
        · rw [portUp_send, portUp_congr .c (set_links _), up]

theorem sheetsReset_foldl {ns : List Nat} (apart : ns.Nodup) (s : State) :
    SheetsReset ns s (ns.foldl (fun s n => resetSheet n s) s) := by
  induction ns generalizing s with
  | nil => exact ⟨fun _ => rfl, fun _ _ => rfl, fun _ => (List.append_nil _).symm, rfl⟩
  | cons n ns ih =>
    obtain ⟨fresh, apart⟩ := List.nodup_cons.mp apart
    have first := sheetsReset_resetSheet n s
    have port := (resetSheet_unchanged s n).port
    obtain ⟨a, ha⟩ : ∃ a, resetSheet n s = a := ⟨_, rfl⟩
    rw [ha] at first port
    have rest := ih apart a
    rw [List.foldl_cons, ha]
    have flying (m : Nat) : inFlightFor a m = inFlightFor s m := inFlightFor_congr port m
    have other {m : Nat} (hm : m ∈ ns) : sheetAt a m = sheetAt s m := by
      have ne : m ≠ n := fun e => fresh (e ▸ hm)
      rw [first.sheets, if_neg (by simpa using ne)]
    refine ⟨fun m => ?_, fun p hp => (rest.others p hp).trans (first.others p hp), fun h => ?_, rest.up.trans first.up⟩
    · rw [rest.sheets]
      by_cases hm : m ∈ ns
      · rw [if_pos hm, if_pos (List.mem_cons_of_mem _ hm), flying, other hm]
      · rw [if_neg hm, first.sheets]
        exact if_congr (by simp [hm]) rfl rfl
    · rw [rest.answers (first.up.trans h), first.answers h, List.append_assoc, List.flatMap_cons, List.flatMap_nil,
        List.append_nil, List.flatMap_cons]
      have same : ns.flatMap (fun m => resetAnswersOf (inFlightFor a m) (sheetAt a m))
          = ns.flatMap (fun m => resetAnswersOf (inFlightFor s m) (sheetAt s m)) := by
        simp only [List.flatMap_def]
        refine congrArg List.flatten (List.map_congr_left fun m hm => ?_)
        rw [flying, other hm]
      rw [same]

/-- The sheets after the reset of them all. -/
theorem sheetAt_resetSheets (n : Nat) (s : State) : sheetAt (resetSheets s) n
    = ((sheetAt s n).bind (sheetKept (inFlightFor s n))).map (loweredSheet 0) := by
  have all := (sheetsReset_foldl (List.nodup_range (n := 16)) s).sheets n
  rw [resetSheets, sheetAt_lowerAccepted, all]
  split
  · rfl
  · rename_i high
    rw [sheetAt_of_le (by simpa using high)]
    rfl

theorem sheetAt_resetSheets_ready (h : sheetAt s n = some x) (hs : x.state = .ready) :
    sheetAt (resetSheets s) n = some { x with readyWaiting := none } := by
  rw [sheetAt_resetSheets, h, Option.bind_some, sheetKept_ready _ hs, Option.map_some, loweredSheet_other]
  exact fun e => nomatch hs.symm.trans e

theorem sheetAt_resetSheets_scanning {r : Relief} (h : sheetAt s n = some x) (hs : x.state = .scanning)
    (hk : x.kind = .relief r) :
    sheetAt (resetSheets s) n = some { x with readyWaiting := none, kind := .relief { r with accepted := r.written } } := by
  have lowered := loweredSheet_scanning (way := 0) (x := { x with readyWaiting := none }) hs hk
  rw [sheetAt_resetSheets, h, Option.bind_some, sheetKept_scanning _ hs, Option.map_some, lowered]
  rfl

set_option Elab.async false in
theorem sheetAt_resetSheets_freed (h : sheetAt s n = some x) (hr : x.state ≠ .ready) (hs : x.state ≠ .scanning)
    (idle : inFlightFor s n = false) : sheetAt (resetSheets s) n = none := by
  rw [sheetAt_resetSheets, h, Option.bind_some, sheetKept_other _ hr hs, idle]
  rfl

theorem sheetAt_resetSheets_retiring (h : sheetAt s n = some x) (hr : x.state ≠ .ready) (hs : x.state ≠ .scanning)
    (inside : inFlightFor s n = true) :
    sheetAt (resetSheets s) n = some { x with readyWaiting := none, state := .retiring } := by
  rw [sheetAt_resetSheets, h, Option.bind_some, sheetKept_other _ hr hs, inside, if_pos rfl, Option.map_some,
    loweredSheet_other (x := { x with readyWaiting := none, state := .retiring }) SheetState.noConfusion]

end Sys2Proof.Machine
end

section
/-! SUPPORT. SERVICE_RESET: the work in progress given up, the sheets and settings kept, and the choice that follows: the
obligation (R172). -/

namespace Sys2Proof.Machine

/- A proof is elaborated in a task of its own. `set_option Elab.async false in` before a theorem makes the compile wait there
for the proofs before it, so that only a few are under way at a time; the linters, which would keep every proof's syntax
tree, are off, so that the compile of the whole text stays within its memory. -/
set_option linter.all false

open Sys2Proof

variable {s t u : State} {n : Nat} {x : Sheet}

/-! ### The choice with no work wanted (R112, R127) -/

/-- With no query, no entry and no window a choice refreshes, closes a bank or issues nothing. -/
theorem choose_of_noWork (records : s.queries.records = []) (queue : s.drain.queue = []) (window : s.window = none) :
    choose s = s ∨ choose s = refreshNext s ∨ (8 ≤ s.port.owed ∧ choose s = refreshNext (count cntForcedRefreshes s))
      ∨ ∃ b, choose s = issueClose b s := by
  have candidates : queryCandidates s = [] := by simp [queryCandidates, records]
  have offered : offeredWord s = none := by simp [offeredWord, window]
  have urgent : urgentChoice s = none := by
    have : firstUrgent s = none := firstUrgent_none.mpr (by simp [candidates])
    simp [urgentChoice, this]
  have access : towardByBaseMode s = none := towardByBaseMode_none (hitFirst_none.mpr candidates) offered queue
  by_cases idle : s.port.state = .run ∧ s.port.inFlight = none
  · rw [choose_of_idle idle.1 idle.2]
    cases hr : s.sched.refreshing with
    | true => exact .inr (.inl (chooseStep_refreshing hr))
    | false =>
      by_cases h8 : 8 ≤ s.port.owed
      · exact .inr (.inr (.inl ⟨h8, chooseStep_forced hr h8⟩))
      · by_cases h4 : 4 ≤ s.port.owed
        · exact .inr (.inl (chooseStep_owed hr (Nat.lt_of_not_le h8) h4 urgent))
        · rw [chooseStep_unforced hr (Nat.lt_of_not_le h4) urgent (promotedWord_none (.inl offered))]
          by_cases owed : 1 ≤ s.port.owed
          · exact .inr (.inl (chooseUnforced_of_owed access owed))
          · have none_owed : s.port.owed = 0 := by omega
            cases hb : idleCloseBank s with
            | none => exact .inl (chooseUnforced_of_nothing access none_owed hb)
            | some b => exact .inr (.inr (.inr ⟨b, chooseUnforced_of_close access none_owed hb⟩))
  · exact .inl (if_neg idle)

/-- The next operation of a refresh touches the port and the mark of the refresh alone. -/
theorem refreshNext_sched (s : State) : Unchanged [.port, .sched] s (refreshNext s)
    ∧ ∃ r, (refreshNext s).sched = { s.sched with refreshing := r } := by
  unfold refreshNext
  split
  · exact ⟨((setSched_unchanged _ s).mono (by decide)).andThen (issueClose_unchanged _ _), _, (issueClose_unchanged _ _).sched⟩
  · exact ⟨((setSched_unchanged _ s).mono (by decide)).andThen (setInFlight_unchanged _ _), _, (setInFlight_unchanged _ _).sched⟩

theorem choose_quietly (records : s.queries.records = []) (queue : s.drain.queue = []) (window : s.window = none) :
    (∃ r, (choose s).sched = { s.sched with refreshing := r })
    ∧ (s.port.owed < 8 → (choose s).counters = s.counters) ∧ Unchanged [.port, .sched, .counters] s (choose s) := by
  obtain e | e | ⟨forced, e⟩ | ⟨b, e⟩ := choose_of_noWork records queue window <;> rw [e]
  · exact ⟨⟨_, rfl⟩, fun _ => rfl, .refl _ s⟩
  · obtain ⟨kept, sched⟩ := refreshNext_sched s
    exact ⟨sched, fun _ => kept.counters, kept.mono (by decide)⟩
  · obtain ⟨kept, sched⟩ := refreshNext_sched (count cntForcedRefreshes s)
    exact ⟨sched, fun low => absurd forced (Nat.not_le.mpr low),
      ((count_unchanged _ s).mono (by decide)).andThen kept⟩
  · have kept := issueClose_unchanged b s
    exact ⟨⟨_, kept.sched⟩, fun _ => kept.counters, kept.mono (by decide)⟩

/-! ### The blocks at the reset (R172) -/

/-- The ports after the ingest is emptied: the FILLING sweep gets its FLUSHED result (R45). -/
theorem resetIngestAndDrain_links (s : State) :
    (∀ p, p ≠ .t → linkOf (resetIngestAndDrain s) p = linkOf s p)
    ∧ (∀ p, portUp (resetIngestAndDrain s) p = portUp s p)
    ∧ (∀ i w, fillingSweep s = some (i, w) → portUp s .t = true → (linkOf (resetIngestAndDrain s) .t).toSend
        = (linkOf s .t).toSend ++ [.sweepResult w.tag .rewound w.row .flushed])
    ∧ (fillingSweep s = none → linkOf (resetIngestAndDrain s) .t = linkOf s .t) := by
  have links : (resetIngestAndDrain s).links = (rewind .flushed true false false s).links := rfl
  cases h : fillingSweep s with
  | none =>
    have same : (resetIngestAndDrain s).links = s.links := by rw [links, rewind_none _ _ _ _ h]
    exact ⟨fun p _ => linkOf_congr p same, fun p => portUp_congr p same, nofun, fun _ => linkOf_congr .t same⟩
  | some found =>
    obtain ⟨i, w⟩ := found
    have sent : (resetIngestAndDrain s).links = (sendSweepResult w.tag .rewound w.row .flushed s).links :=
      links.trans (rewind_rewound .flushed true false false h).links
    refine ⟨fun p hp => (linkOf_congr p sent).trans (linkOf_send_other _ hp),
      fun p => (portUp_congr p sent).trans (portUp_send _), fun j v e up => ?_, nofun⟩
    cases e
    exact (congrArg Link.toSend (linkOf_congr .t sent)).trans (toSend_send _ up)

/-- The READ_WINDOW that runs is CANCELLED (R159). -/
def windowCancelled (s : State) : List OutRecord := match s.window with
  | some w => [.cellReply w.tag 9 .cancelled .empty]
  | none => []

theorem endWindowWith_cancelled (s : State) :
    (endWindowWith .cancelled s).window = none
    ∧ (∀ p, p ≠ .c → linkOf (endWindowWith .cancelled s) p = linkOf s p)
    ∧ (∀ p, portUp (endWindowWith .cancelled s) p = portUp s p)
    ∧ (portUp s .c = true → (linkOf (endWindowWith .cancelled s) .c).toSend = (linkOf s .c).toSend ++ windowCancelled s)
    ∧ (∃ f : InFlight → Bool, (endWindowWith .cancelled s).port = (discardInFlight f s).port) := by
  cases h : s.window with
  | none =>
    rw [endWindowWith_none _ h]
    refine ⟨h, fun _ _ => rfl, fun _ => rfl, fun _ => ?_, fun _ => false, ?_⟩
    · simp only [windowCancelled, h, List.append_nil]
    · cases ho : s.port.inFlight with
      | none => rw [discardInFlight_idle ho]
      | some o => rw [discardInFlight_not ho rfl]
  | some w =>
    have dropped := (dropWindow_unchanged s).links
    rw [endWindowWith_some _ h]
    refine ⟨(send_unchanged _ _ _).window, fun p hp => ?_, fun p => ?_, fun up => ?_, ownedByWindow, ?_⟩
    · rw [linkOf_send_other _ hp, linkOf_congr p dropped]
    · rw [portUp_send, portUp_congr p dropped]
    · rw [toSend_send _ ((portUp_congr .c dropped).trans up), linkOf_congr .c dropped]
      simp only [windowCancelled, h]
    · rw [(send_unchanged _ _ _).port, dropWindow_port]

/-- After the reset the operation in flight is to be discarded, whether its owner had left or not. -/
theorem resetPort_discardInFlight (f : InFlight → Bool) (s : State) :
    resetPort (discardInFlight f s).port = resetPort s.port := by
  cases ho : s.port.inFlight with
  | none => rw [discardInFlight_idle ho]
  | some o =>
    cases hf : f o with
    | true =>
      rw [discardInFlight_of ho hf]
      simp only [resetPort, setInFlight, State.setPort_port, ho, Option.map_some]
    | false => rw [discardInFlight_not ho hf]

/-- What a service reset gives up, and what it keeps. -/
structure GivenUp (s t : State) : Prop where
  slots : ∀ i : Fin 2, t.ingest.slots[i]'i.2 = .free
  ingest : t.ingest.hold = s.ingest.hold ∧ t.ingest.stray = 0
  drain : t.drain = ⟨[], []⟩
  buffers : ∀ b : Fin 4, t.buffers[b]'b.2 = none
  window : t.window = none
  queries : t.queries = ⟨[], 0⟩
  spindles : ∀ m : Fin 6, t.spindles[m]'m.2 = contextAtServiceReset (s.spindles[m]'m.2)
  sheets : ∀ m, sheetAt t m = sheetAt (resetSheets (resetIngestAndDrain s)) m
  port : t.port = resetPort s.port
  sched : t.sched = resetSched s.sched
  notices : t.notices = ⟨0, 0⟩
  counters : t.counters = .replicate 28 0
  answers : portUp s .c = true → (linkOf t .c).toSend = (linkOf s .c).toSend
    ++ (List.range 16).flatMap (fun m => resetAnswersOf (inFlightFor s m) (sheetAt s m)) ++ windowCancelled s
  others : ∀ p, p ≠ .c → linkOf t p = linkOf (resetIngestAndDrain s) p
  up : ∀ p, portUp t p = portUp s p

theorem givenUp_serviceReset (s : State) : GivenUp s (serviceReset s) := by
  have emptied := resetIngestAndDrain_unchanged s
  obtain ⟨links, up, -, -⟩ := resetIngestAndDrain_links s
  have ingest : (resetIngestAndDrain s).ingest = { (rewindByReset s).ingest with slots := .replicate 2 .free, stray := 0 } := rfl
  have hold : (rewindByReset s).ingest.hold = s.ingest.hold := (rewind_ingest ..).1
  have drain : (resetIngestAndDrain s).drain = ⟨[], []⟩ := rfl
  have buffers : (resetIngestAndDrain s).buffers = .replicate 4 none := rfl
  have whole : serviceReset s = (let c := endWindowWith .cancelled (resetSheets (resetIngestAndDrain s))
    let d := mapSpindles contextAtServiceReset allSpindles (c.setQueries ⟨[], 0⟩)
    (((d.setPort (resetPort d.port)).setSched (resetSched d.sched)).setNotices ⟨0, 0⟩).setCounters (.replicate 28 0)) := rfl
  have given : (serviceReset s).sheets = (resetSheets (resetIngestAndDrain s)).sheets := serviceReset_sheets s
  obtain ⟨a, ha⟩ : ∃ a, resetIngestAndDrain s = a := ⟨_, rfl⟩
  rw [ha] at emptied ingest drain buffers whole given
  simp only [ha] at links up
  have kept := resetSheets_unchanged a
  have all := sheetsReset_foldl (List.nodup_range (n := 16)) a
  have b_links : (resetSheets a).links = ((List.range 16).foldl (fun s n => resetSheet n s) a).links :=
    (lowerAccepted_unchanged _ _).links
  obtain ⟨b, hb⟩ : ∃ b, resetSheets a = b := ⟨_, rfl⟩
  rw [hb] at kept b_links whole given
  obtain ⟨window, c_links, c_up, c_answers, f, port⟩ := endWindowWith_cancelled b
  have ended := endWindowWith_unchanged .cancelled b
  obtain ⟨c, hc⟩ : ∃ c, endWindowWith .cancelled b = c := ⟨_, rfl⟩
  rw [hc] at window c_answers port ended whole
  simp only [hc] at c_links c_up
  have mapped := mapSpindles_unchanged contextAtServiceReset allSpindles (c.setQueries ⟨[], 0⟩)
  have spindles (m : Fin 6) : (mapSpindles contextAtServiceReset allSpindles (c.setQueries ⟨[], 0⟩)).spindles[m]'m.2
      = contextAtServiceReset (c.spindles[m]'m.2) :=
    (spindles_mapSpindles _ (by decide)).trans (if_pos (by fin_cases m <;> decide))
  obtain ⟨d, hd⟩ : ∃ d, mapSpindles contextAtServiceReset allSpindles (c.setQueries ⟨[], 0⟩) = d := ⟨_, rfl⟩
  dsimp only at whole
  rw [hd] at mapped whole
  simp only [hd] at spindles
  obtain ⟨t, ht⟩ : ∃ t, serviceReset s = t := ⟨_, rfl⟩
  rw [ht] at whole given ⊢
  have t_links : t.links = c.links := by rw [whole]; exact mapped.links
  have t_ingest : t.ingest = a.ingest := by rw [whole]; exact mapped.ingest.trans (ended.ingest.trans kept.ingest)
  have t_port : t.port = resetPort d.port := by rw [whole]; rfl
  refine ⟨fun i => ?_, ?_, ?_, fun j => ?_, ?_, ?_, fun m => ?_, fun m => ?_, ?_, ?_, ?_, ?_, fun h => ?_, fun p hp => ?_,
    fun p => ?_⟩
  · rw [t_ingest, ingest]
    exact Vector.getElem_replicate _
  · rw [t_ingest, ingest]
    exact ⟨hold, rfl⟩
  · rw [whole]
    exact mapped.drain.trans (ended.drain.trans (kept.drain.trans drain))
  · have e : t.buffers = a.buffers := by rw [whole]; exact mapped.buffers.trans (ended.buffers.trans kept.buffers)
    rw [e, buffers]
    exact Vector.getElem_replicate _
  · rw [whole]
    exact mapped.window.trans window
  · rw [whole]
    exact mapped.queries
  · have e : t.spindles = d.spindles := by rw [whole]; rfl
    have base : c.spindles = s.spindles := ended.spindles.trans (kept.spindles.trans emptied.spindles)
    rw [e, spindles, base]
  · rw [sheetAt_congr given, ha, hb]
  · have before : b.port = s.port := kept.port.trans emptied.port
    rw [t_port, show d.port = c.port from mapped.port, port, resetPort_discardInFlight, before]
  · have base : d.sched = s.sched := mapped.sched.trans (ended.sched.trans (kept.sched.trans emptied.sched))
    rw [whole, ← base]
    rfl
  · rw [whole]
    rfl
  · rw [whole]
    rfl
  · have up_a : portUp a .c = true := (up .c).trans h
    have flying (m : Nat) : inFlightFor a m = inFlightFor s m := inFlightFor_congr emptied.port m
    have sheets (m : Nat) : sheetAt a m = sheetAt s m := sheetAt_congr emptied.sheets m
    have cancelled : windowCancelled b = windowCancelled s := by
      rw [windowCancelled, kept.window, emptied.window, windowCancelled]
    have up_b : portUp b .c = true := (portUp_congr .c b_links).trans (all.up.trans up_a)
    have said := all.answers up_a
    simp only [flying, sheets] at said
    rw [linkOf_congr .c t_links, c_answers up_b, cancelled, linkOf_congr .c b_links, said, links .c (by decide)]
  · rw [linkOf_congr p t_links, c_links p hp, linkOf_congr p b_links, all.others p hp, ha]
  · have b_up : portUp b p = portUp a p := by
      rw [portUp_congr p b_links]
      by_cases hp : p = .c
      · rw [hp, all.up]
      · rw [portUp, all.others p hp, portUp]
    rw [portUp_congr p t_links, c_up, b_up, up]

/-- Settles O44. -/
theorem serviceResetGivesUpWorkAndKeepsSheets : Obligations.ServiceResetGivesUpWorkAndKeepsSheets := by
  unfold Obligations.ServiceResetGivesUpWorkAndKeepsSheets
  intro s tag rest front readyAnswer closeAnswer sheetAnswers windowAnswer
  set q : Request := ⟨tag, .serviceReset⟩ with hq
  have taken : exec (.serviceReset tag) s = .next (choose (answerRequest q .done (serviceReset (s.setCellQueue rest)))) :=
    (show exec (.serviceReset tag) s = takeRequest q (fun s => choose (answerRequest q .done (serviceReset s))) s from rfl).trans
      (takeRequest_front front)
  have given := givenUp_serviceReset (s.setCellQueue rest)
  have kept := serviceReset_unchanged (s.setCellQueue rest)
  obtain ⟨-, -, flushed, unswept⟩ := resetIngestAndDrain_links (s.setCellQueue rest)
  obtain ⟨u, hu⟩ : ∃ u, serviceReset (s.setCellQueue rest) = u := ⟨_, rfl⟩
  rw [hu] at taken given kept
  have answered := answerRequest_unchanged q .done u
  have said := toSend_answerRequest (q := q) (s := u) .done
  have silent {p : Port} (hp : p ≠ .c) : linkOf (answerRequest q .done u) p = linkOf u p := linkOf_send_other _ hp
  have up (p : Port) : portUp (answerRequest q .done u) p = portUp u p := portUp_send _
  obtain ⟨v, hv⟩ : ∃ v, answerRequest q .done u = v := ⟨_, rfl⟩
  rw [hv] at taken answered said
  simp only [hv] at silent up
  have records : v.queries.records = [] := by rw [answered.queries, given.queries]
  have queue : v.drain.queue = [] := by rw [answered.drain, given.drain]
  have window : v.window = none := by rw [answered.window, given.window]
  have port : v.port = resetPort s.port := answered.port.trans given.port
  have v_sched : v.sched = resetSched s.sched := answered.sched.trans given.sched
  obtain ⟨⟨r, sched⟩, counters, quiet⟩ := choose_quietly records queue window
  obtain ⟨state, owed, left⟩ := choose_port v
  have row (b : Fin 8) := choose_row v b
  have timer (b : Fin 8) := choose_timer v b
  have busy := choose_of_busy (s := v)
  obtain ⟨t, ht⟩ : ∃ t, choose v = t := ⟨_, rfl⟩
  rw [ht] at taken sched counters quiet state owed left
  simp only [ht] at row timer busy
  have bank (b : Fin 8) : v.port.banks[b]'b.2 = { s.port.banks[b]'b.2 with
      timer := none, closeWanted := (s.port.banks[b]'b.2).row.isSome || (s.port.banks[b]'b.2).closeWanted } := by
    rw [port]
    exact Vector.getElem_map ..
  have sheets (m : Nat) : sheetAt t m = sheetAt (resetSheets (resetIngestAndDrain (s.setCellQueue rest))) m := by
    rw [sheetAt_congr quiet.sheets, sheetAt_congr answered.sheets, given.sheets]
  have before (m : Nat) : sheetAt (resetIngestAndDrain (s.setCellQueue rest)) m = sheetAt s m :=
    sheetAt_congr (resetIngestAndDrain_unchanged _).sheets m
  have flying (m : Nat) : inFlightFor (resetIngestAndDrain (s.setCellQueue rest)) m = inFlightFor s m :=
    inFlightFor_congr (resetIngestAndDrain_unchanged _).port m
  have spindles (m : Fin 6) : t.spindles[m]'m.2 = contextAtServiceReset (s.spindles[m]'m.2) := by
    rw [quiet.spindles, answered.spindles]
    exact given.spindles m
  have links (p : Port) : linkOf t p = linkOf v p := linkOf_congr p quiet.links
  refine ⟨t, taken, quiet.time.trans (answered.time.trans kept.time),
    quiet.settings.trans (answered.settings.trans kept.settings), quiet.mem.trans (answered.mem.trans kept.mem),
    quiet.cellQueue.trans (answered.cellQueue.trans kept.cellQueue), fun i => ?_, ?_, ?_, ?_, ?_, fun b => ?_, ?_, ?_, ?_,
    fun m => ?_, fun m x hx => ⟨fun hs => ?_, fun r hs hk => ?_, fun hr hs idle => ?_, fun hr hs inside => ?_⟩,
    ?_, ?_, ?_, ?_, ?_, ?_, fun b => ⟨?_, ?_⟩, fun o ho => ?_, ?_, ?_, fun low k => ?_, fun h => ?_, fun i w hf h => ?_,
    fun hf => ?_, ⟨v, ht.symm, ?_, ?_, fun b => ⟨?_, fun open_ => ?_⟩⟩, fun p => ?_⟩
  · rw [quiet.ingest, answered.ingest]
    exact given.slots i
  · rw [quiet.ingest, answered.ingest]
    exact given.ingest.1
  · rw [quiet.ingest, answered.ingest]
    exact given.ingest.2
  · rw [quiet.drain, answered.drain, given.drain]
  · rw [quiet.drain, queue]
  · rw [quiet.buffers, answered.buffers]
    exact given.buffers b
  · rw [quiet.window, window]
  · rw [quiet.queries, records]
  · rw [quiet.queries, answered.queries, given.queries]
  · rw [spindles]
    exact ⟨rfl, rfl, rfl, rfl, rfl, rfl, rfl, rfl, rfl⟩
  · rw [sheets]
    exact sheetAt_resetSheets_ready ((before m).trans hx) hs
  · rw [sheets]
    exact sheetAt_resetSheets_scanning ((before m).trans hx) hs hk
  · rw [sheets]
    exact sheetAt_resetSheets_freed ((before m).trans hx) hr hs ((flying m).trans idle)
  · exact ⟨_, (sheets m).trans (sheetAt_resetSheets_retiring ((before m).trans hx) hr hs ((flying m).trans inside)), rfl, rfl⟩
  · rw [sched, v_sched]
    rfl
  · rw [sched, v_sched]
    rfl
  · rw [sched, v_sched]
    rfl
  · rw [state, port]
    rfl
  · rw [owed, port]
    rfl
  · rw [left, port]
    rfl
  · rw [row, bank]
  · obtain e | e := timer b
    · rw [e, bank]
    · exact e
  · have inside : v.port.inFlight = some { o with discard := true, afterReset := true } := by
      rw [port, resetPort, ho]
      rfl
    rw [busy (.inr (by rw [inside]; nofun)), inside]
  · rw [quiet.notices, answered.notices, given.notices]
  · rw [quiet.notices, answered.notices, given.notices]
  · have none_forced : v.port.owed < 8 := by
      rw [port]
      exact low
    rw [counters none_forced, answered.counters, given.counters]
    exact Vector.getElem_replicate _
  · rw [links, said ((given.up .c).trans h), given.answers h]
    rfl
  · rw [links, silent (by decide), given.others .t (by decide)]
    exact flushed i w hf h
  · rw [links, silent (by decide), given.others .t (by decide)]
    exact unswept hf
  · rw [v_sched]
    rfl
  · rw [v_sched]
    rfl
  · rw [bank]
  · rw [bank]
    exact (congrArg (· || _) (Option.isSome_iff_ne_none.mpr open_)).trans (Bool.true_or _)
  · rw [portUp, links, ← portUp, up, given.up]
    rfl

end Sys2Proof.Machine
end
